-- ==== Sys2Proof/Word.lean ====
section
/-! DEFINITION. The two word widths of the part: a 32-bit word of the memory window and of a tick, version or
sequence number, and a byte of a pair frame. -/

namespace Sys2Proof

/-- A 32-bit word: the width of every access to the memory window (R191), of ticks, versions and sequence numbers. -/
abbrev Word := BitVec 32

/-- A byte of a pair frame's payload (R194). -/
abbrev Byte := BitVec 8

end Sys2Proof
end

