-- ==== Sys2Proof/Syntax.lean ====
section
/-! DEFINITION. The commands of the part: one constructor for each row of spec/opcode_table.json, in the table's order.

The table gives no operand fields. Operands here are what the row's own rule says arrives with the event: the level of a
strap or of a line, the payload of a received frame, the word of a window write, and, for an event whose rule measures
milliseconds of the reference clock, the `phase`: how many periods of the reference have passed since the last whole
millisecond (assumption 3). A request row (INSERT … UNKNOWN_REQUEST) is the executor beginning the request at the head of
the request queue, so its operands are that request's words, not operands of the command (assumption 2). -/

namespace Sys2Proof

inductive Instr where
  /-- POWER_ON (R197): power is applied with UNIT_SEL at this level (high: unit B). -/
  | powerOn (unitSel : Bool)
  /-- HARD_RESET (R197): RESET_N goes low. -/
  | hardReset
  /-- RESET_RELEASE (R197): the rising edge of RESET_N, with UNIT_SEL at this level. -/
  | resetRelease (unitSel : Bool)
  /-- CARRIER_UP (R96). -/
  | carrierUp
  /-- CARRIER_LOSS (R113). -/
  | carrierLoss
  /-- TICK (R47): the reference clock runs on to the millisecond that takes a tick. -/
  | tick
  /-- WALKER_VISIT (R53). -/
  | walkerVisit
  /-- QUARANTINE_HOLD_EXPIRY (R68). -/
  | quarantineHoldExpiry
  /-- HEARTBEAT_TIMEOUT (R101). -/
  | heartbeatTimeout
  /-- SILENCE_TIMEOUT (R103). -/
  | silenceTimeout
  /-- GRACE_END (R158). -/
  | graceEnd
  /-- LISTEN_PERIOD_END (R154). -/
  | listenPeriodEnd
  /-- SECOND_LISTEN_END (R154). -/
  | secondListenEnd
  /-- STAGGER_END (R155). -/
  | staggerEnd
  /-- HEALTH_HOLD_YIELD (R166). -/
  | healthHoldYield
  /-- YIELD_TIMEOUT (R165). -/
  | yieldTimeout
  /-- HELLO_PACING (R120). -/
  | helloPacing (phase : Nat)
  /-- HELLO_TIMEOUT (R123). -/
  | helloTimeout (phase : Nat)
  /-- RETRANSMIT_TIMEOUT (R107). -/
  | retransmitTimeout (phase : Nat)
  /-- TRANSMIT_DONE (R99). -/
  | transmitDone (phase : Nat)
  /-- FRAME_BUILD (R104). -/
  | frameBuild
  /-- CATCHUP_VISIT (R88). -/
  | catchupVisit
  /-- HELLO_PAGE_RECEIVED (R121), with the frame's payload. -/
  | helloPageReceived (payload : List Byte)
  /-- HELLO_IN_UP (R125), with the frame's payload. -/
  | helloInUp (payload : List Byte)
  /-- BEAT_RECEIVED (R102), with the frame's payload. -/
  | beatReceived (payload : List Byte)
  /-- DELTA_RECEIVED (R109), with the frame's payload. -/
  | deltaReceived (payload : List Byte)
  /-- ACK_RECEIVED (R105), with the frame's payload. -/
  | ackReceived (payload : List Byte)
  /-- PROBE_OUTBOUND_RECEIVED (R116), with the frame's payload. -/
  | probeOutboundReceived (payload : List Byte)
  /-- PROBE_RETURNED (R115, R116), with the frame's payload: a probe that has come back, marked returned from the cable, and still
  outbound, as it was sent, from the internal loop. An outbound probe from the cable is PROBE_OUTBOUND_RECEIVED. -/
  | probeReturned (payload : List Byte)
  /-- FRAME_REJECTED (R98): a frame with this Ethernet type, the outcome of the Ethernet frame check, whether it came from
  the cable or from the internal loop, and its payload. -/
  | frameRejected (etherType : BitVec 16) (checkOk fromCable : Bool) (payload : List Byte)
  /-- LOOP_TEST_TIMEOUT (R115). -/
  | loopTestTimeout (phase : Nat)
  /-- LINE_REPETITION_JUDGED (R142): a rising edge of ROLE_IN that ends a low run of `lowRun` reference periods. -/
  | lineRepetitionJudged (phase lowRun : Nat)
  /-- REPETITION_CLOSURE_TIMEOUT (R142). -/
  | repetitionClosureTimeout (phase : Nat)
  /-- UNALIGNED_PERIOD_END (R142). -/
  | unalignedPeriodEnd (phase : Nat)
  /-- LINE_SILENCE_TIMEOUT (R144). -/
  | lineSilenceTimeout (phase : Nat)
  /-- REQUEST_WINDOW_WRITE (R174): a write of the request window; `lanes` says which bytes are written (R191). -/
  | requestWindowWrite (word : Word) (lanes : BitVec 4)
  /-- COMPLETION_WINDOW_READ (R178). -/
  | completionWindowRead
  /-- EVENT_LATCH_READ (R180). -/
  | eventLatchRead
  /-- EVENT_ENABLE_WRITE (R180). -/
  | eventEnableWrite (word : Word) (lanes : BitVec 4)
  /-- IGNORED_WINDOW_WRITE (R191): a write at this byte offset. -/
  | ignoredWindowWrite (offset : Nat) (word : Word)
  /-- INSERT (R13). -/
  | insert
  /-- LOOKUP (R15). -/
  | lookup
  /-- READ_SLOT (R16). -/
  | readSlot
  /-- UPDATE (R17). -/
  | update
  /-- TOUCH (R18). -/
  | touch
  /-- REMOVE (R19). -/
  | remove
  /-- CHECK (R28). -/
  | check
  /-- LOOP_TEST_INTERNAL (R115). -/
  | loopTestInternal
  /-- LOOP_TEST_FAR (R116). -/
  | loopTestFar
  /-- RETRY_PAIR (R127). -/
  | retryPair
  /-- HEALTH (R170). -/
  | health
  /-- FORCE_ACTIVE (R168). -/
  | forceActive
  /-- HOLD_STANDBY (R167). -/
  | holdStandby
  /-- RELEASE_HOLD (R167). -/
  | releaseHold
  /-- ROLE_REQUEST_YIELD (R169). -/
  | roleRequestYield
  /-- SET_CONFIG (R184). -/
  | setConfig
  /-- START (R186). -/
  | start
  /-- READ_STATUS (R187). -/
  | readStatus
  /-- READ_COUNTERS (R182). -/
  | readCounters
  /-- SOFT_RESET (R188). -/
  | softReset
  /-- UNKNOWN_REQUEST (R176). -/
  | unknownRequest
  /-- MILLISECOND (R47). -/
  | millisecond
  /-- LINE_RISING_EDGE (R144): a rising edge of ROLE_IN that ends a low run of `lowRun` reference periods. -/
  | lineRisingEdge (phase lowRun : Nat)
  /-- MID_BIT_SAMPLE (R141): the level of ROLE_IN at a sampling moment. -/
  | midBitSample (phase : Nat) (level : Bool)
  /-- DRIVER_BIT_TIME (R140). -/
  | driverBitTime (phase : Nat)
  deriving DecidableEq, Repr

end Sys2Proof
end

