-- ==== Sys2Proof/Decode.lean ====
section
/-! DEFINITION. The command a word spells by the bits of spec/opcode_table.json. The table gives bits to none of its 65
rows ("n_rows_with_fixed": 0), so no word spells a command (assumption 1). The words the part itself reads (requests,
completions, frames) are laid out in chapter 11 and modelled in Machine/Operands.lean and Machine/Formats.lean. -/

namespace Sys2Proof

/-- No row of the table has bits, so no word of any length is a command. -/
def decodeTableWord (_nbits _w : Nat) : Option Instr := none

end Sys2Proof
end

