-- ==== Sys2Proof/Config.lean ====
section
/-! DEFINITION. What the part fixes for every implementation (geometry, queue depths, reference-clock intervals), and
the values the manual leaves open, as opaque constants with no body. -/

namespace Sys2Proof.Config

/-! ### Table geometry (R1) -/

/-- R1: slots 0 to 16,895. -/
def slotCount : Nat := 16896
/-- R1: slots 0 to 16,383 are main slots; spill slots follow. -/
def mainSlots : Nat := 16384
/-- R1: 512 spill slots. -/
def spillSlots : Nat := 512
/-- R1: 4,096 buckets. -/
def bucketCount : Nat := 4096
/-- R1: four ways in a bucket. -/
def waysPerBucket : Nat := 4

/-! ### Queue bounds -/

/-- R78: at most 1,024 entries in the delta queue. -/
def deltaQueueLimit : Nat := 1024
/-- R84: the refresh watermark. -/
def watermark : Nat := 768
/-- R87: catch-up starts below this occupancy. -/
def catchupBelow : Nat := 256
/-- R67: at most 512 quarantined ports. -/
def quarantineLimit : Nat := 512
/-- R104: at most 8 DELTA frames in flight. -/
def inFlightLimit : Nat := 8
/-- R98: 1 to 20 records in a DELTA frame. -/
def frameRecords : Nat := 20
/-- R132: at most 256 slots scanned for one frame. -/
def scanLimit : Nat := 256
/-- R108: a frame is sent at most 6 times. -/
def maxAttempts : Nat := 6
/-- R175: the request queue holds at most 32 requests. -/
def requestLimit : Nat := 32
/-- R175: the completion queue holds at most 64 completions. -/
def completionLimit : Nat := 64
/-- R181, R175: counters and the drop count saturate at 65,535. -/
def counterMax : Nat := 65535
/-- R52: visits the walker owes at each tick. -/
def visitsPerTick : Nat := 1056
/-- R115: probes of a loop test. -/
def probeCount : Nat := 64

/-! ### Ports (R61) -/

/-- R61: blocks of 64 ports from 1,024 up. -/
def portBlocks : Nat := 1008
/-- R61: ports in a block. -/
def blockPorts : Nat := 64
/-- R61: the first port of block 0. -/
def firstPort : Nat := 1024
/-- R61: the last port. -/
def lastPort : Nat := 65535

/-! ### The reference clock (R47, R138): all in periods of the 25 MHz reference -/

/-- R47: one millisecond is 25,000 periods of the reference. -/
def periodsPerMs : Nat := 25000
/-- `n` milliseconds of the reference clock. -/
def ms (n : Nat) : Nat := n * periodsPerMs

/-! ### Values the manual leaves open

Each is opaque: nothing in Lean can evaluate it, so a claim that mentions it holds whatever it is. -/

/-- FREE VALUE (assumption 10). R151 orders equal health and priority by unit letter, A above B, and says nothing of two
units whose letter bytes are not one A (0) and one B (1). R196 lets such a peer through. This says whether this unit,
with the first letter byte, stands higher than a peer with the second. -/
opaque letterTie : Byte → Byte → Bool

/-- FREE VALUE (assumption 11). R194: "The part sends one fixed source address and one fixed destination address": the
values are not given. -/
opaque sourceAddress : BitVec 48
/-- FREE VALUE (assumption 11). The fixed destination address of R194. -/
opaque destinationAddress : BitVec 48
/-- FREE VALUE (assumption 11). R194: pad bytes bring the payload to the Ethernet minimum; their values are not given. -/
opaque padByte : Byte

/-- FREE VALUE (assumption 43). R59 sends signed(deadline − now) as remaining ticks, a negative value as 0, and says that the value
lies in 0 to 65,535. For a pinned record more than 2^31 ticks past its deadline the signed difference is positive and beyond that
range, and R59 does not say what is sent. This says it, for the deadline and the tick count. -/
opaque remainingBeyond : Word → Word → BitVec 16

end Sys2Proof.Config
end

