-- ==== Sys2Proof/Machine/State.lean ====
section
/-! DEFINITION. The state of one Pelfor 2140: every item the manual gives its ten blocks, as plain data, the reasons a
step can stop, and the machine right after power-on. INVENTORY.md lists each item with its rule and reset value. -/

namespace Sys2Proof.Machine

/-! ### Why a step can stop -/

/-- No command of this part faults: the manual reports every error by a status, an event or a counter, and goes on. The
one constructor is kept for the interface and is raised by nothing (safe). -/
inductive Fault where
  /-- Raised by no meaning. Safe: it would only stop a run. -/
  | unreachable
  deriving DecidableEq, Repr

/-- Why a command is refused by the model. -/
inductive Refusal where
  /-- Raised by `exec` for a command without a meaning; every command has one, so it is raised by nothing. Safe. -/
  | notModelled (mnemonic : String)
  deriving DecidableEq, Repr

/-! ### Names -/

/-- The unit letter of UNIT_SEL (R62). -/
inductive UnitLetter where | a | b
  deriving DecidableEq, Repr

/-- R149: the roles, in the order R193 codes them. -/
inductive Role where | boot | listen | joining | standby | active | takeover | yielding | isolated
  deriving DecidableEq, Repr

/-- R143: the classes of the peer's line, in the order R193 codes them. -/
inductive LineClass where | active | standby | waiting | silent | garbled
  deriving DecidableEq, Repr

/-- R138: the three patterns a line can carry. A driver with no pattern is held low. -/
inductive LinePattern where | active | standby | waiting
  deriving DecidableEq, Repr

/-- R96: the link states. -/
inductive LinkState where | down | hello | up | refused | loopback
  deriving DecidableEq, Repr

/-- R130: the sweep states. -/
inductive SweepState where | idle | sweeping | draining
  deriving DecidableEq, Repr

/-- R62: which lanes ALLOCATE may draw from. -/
inductive LaneMode where | own | both
  deriving DecidableEq, Repr

/-- R6: who wrote the record, a request on this unit or an applied delta. -/
inductive Source where | loc | peer
  deriving DecidableEq, Repr

/-- R117: why the last relation ended. -/
inductive EndReason where | none | carrier | silent | exhausted | helloSeen | softReset
  deriving DecidableEq, Repr

/-- R149: what the listen timer is running for. -/
inductive ListenPurpose where | first | second | stagger
  deriving DecidableEq, Repr

/-- R179: the sixteen events, in latch bit order (R191). -/
inductive Event where
  | roleChanged | relationUp | relationEnded | syncComplete | queueOverflow | catchupDone | incompatible | splitResolved
  | graceEnded | partialTakeover | yieldFailed | poolLow | requestOverrun | lineFault | completionReady | resetDone
  deriving DecidableEq, Repr

/-- R193: the statuses, in code order. -/
inductive Status where
  | none | ok | exists_ | noSession | staleVersion | tableFull | poolEmpty | portTaken | notActive | notReady | notTcp
  | badSlot | badRequest | peerPresent
  deriving DecidableEq, Repr

/-! ### Session records (chapter 1) -/

/-- R4: the fields that name a session. -/
structure Key where
  zone : BitVec 4
  protocol : Byte
  insideAddr : Word
  insidePort : BitVec 16
  outsideAddr : Word
  outsidePort : BitVec 16
  deriving DecidableEq, Repr

/-- R7: a public address index and port. It also names a port in the Port Pool (R63). -/
structure NatPart where
  index : BitVec 2
  port : BitVec 16
  deriving DecidableEq, Repr

/-- R8: the fields of one direction of a TCP record. -/
structure TcpDir where
  edge : Word
  wend : Word
  maxwin : Word
  scale : Byte
  deriving DecidableEq, Repr

/-- R8: the TCP part, by the direction of the data's sender. -/
structure TcpPart where
  outDir : TcpDir
  inDir : TcpDir
  deriving DecidableEq, Repr

/-- R6: the replication marks of a record. -/
structure Marks where
  queued : Bool
  dirty : Bool
  owed : Bool
  deriving DecidableEq, Repr

/-- R6: a session record. `home` is the home bucket of a spill slot and `none` in a main slot. -/
structure Record where
  key : Key
  home : Option Nat
  cls : BitVec 3
  pinned : Bool
  deadline : Word
  deadlineSent : Word
  lastTouch : Word
  rate : BitVec 16
  stamp : Word
  baseEpoch : BitVec 16
  seenEpoch : BitVec 16
  seenOut : Bool
  seenIn : Bool
  source : Source
  nat : Option NatPart
  tcp : Option TcpPart
  marks : Marks
  deriving DecidableEq, Repr

/-- R2: the three states of a slot. A LIVE or DOOMED slot holds a record. -/
inductive SlotBody where
  | free
  | live (r : Record)
  | doomed (r : Record)
  deriving DecidableEq, Repr

/-- R1, R3: a slot's version and what it holds. -/
structure Slot where
  version : Word
  body : SlotBody
  deriving DecidableEq, Repr

/-- The slot every unlisted index reads as: FREE at version 0, as power-on leaves it (R25). -/
def Slot.blank : Slot := ⟨0, .free⟩

/-- The Session Table: the slots that differ from a blank one, by strictly rising index. -/
abbrev Table := List (Nat × Slot)

/-! ### Deltas and frames (chapters 5, 6, 7 and 11) -/

/-- R78: the kinds an entry of the delta queue can have. -/
inductive QueueKind where | create | change | refresh | delete
  deriving DecidableEq, Repr

/-- R78: an entry of the delta queue. -/
structure Entry where
  slot : Nat
  kind : QueueKind
  deriving DecidableEq, Repr

/-- R195: the four kinds that carry a whole record. -/
inductive FullKind where | create | change | refresh | fill
  deriving DecidableEq, Repr

/-- R195: a record that carries a whole session. -/
structure FullDelta where
  kind : FullKind
  slot : BitVec 16
  version : Word
  key : Key
  cls : BitVec 3
  pinned : Bool
  remaining : BitVec 16
  rate : BitVec 16
  nat : Option NatPart
  tcp : Option TcpPart
  deriving DecidableEq, Repr

/-- R195: one record of a DELTA frame. -/
inductive Delta where
  | full (d : FullDelta)
  | delete (slot : BitVec 16) (version : Word) (key : Key)
  | sweepBegin
  | sweepEnd
  | yieldMarker
  deriving DecidableEq, Repr

/-- R196: the contents of hello page 1. -/
structure Identity where
  letter : Byte
  priority : Byte
  health : Byte
  role : Role
  live : BitVec 16
  deriving DecidableEq, Repr

/-- R124, R196: what each hello page carries; the constructor gives the page number. -/
inductive PageContent where
  | identity (p : Identity)
  | geometry (slots buckets : BitVec 16) (seed : Word)
  | nat (count blocks : Byte) (a0 a1 a2 a3 : Word)
  | timers (interval : BitVec 16)
  deriving DecidableEq, Repr

/-- R120, R196: a hello page. -/
structure HelloPage where
  toggle : Bool
  ackToggle : Bool
  comply : Bool
  more : Bool
  exchange : Byte
  ackExchange : Byte
  content : PageContent
  deriving DecidableEq, Repr

/-- R101, R196: a BEAT. `letter` is the unit letter bit. -/
structure Beat where
  role : Role
  health : BitVec 3
  priority : BitVec 4
  letter : Bool
  lagging : Bool
  hold : Bool
  sweep : SweepState
  live : BitVec 16
  deriving DecidableEq, Repr

/-- R194: a PROBE: its number, its direction byte and its 32 bytes of pattern. -/
structure Probe where
  number : Byte
  direction : Byte
  pattern : List Byte
  deriving DecidableEq, Repr

/-- R97: the five frame kinds. -/
inductive Frame where
  | hello (p : HelloPage)
  | beat (b : Beat)
  | delta (seq : Byte) (records : List Delta)
  | ack (next : Byte)
  | probe (p : Probe)
  deriving DecidableEq, Repr

/-! ### The Request Port (chapter 10) -/

/-- R192: a request as taken: its header and body words. -/
structure Request where
  header : Word
  body : List Word
  deriving DecidableEq, Repr

/-- R177: a posted completion. -/
structure Completion where
  kind : BitVec 6
  status : Status
  tag : BitVec 16
  result : List Word
  deriving DecidableEq, Repr

/-- R115, R116: the LOOP_TEST the executor holds. `since` is the reference-clock time at which its first probe was sent. `earlier`
says that the outbound probe in transmission is one of a test before it. -/
structure LoopTest where
  tag : BitVec 16
  far : Bool
  sent : Nat
  counted : List Nat
  since : Option Nat
  earlier : Bool
  deriving DecidableEq, Repr

/-- R181: the eight counters. -/
structure Counters where
  framesResent : Nat
  framesDiscarded : Nat
  deltasCoalesced : Nat
  refreshSuppressed : Nat
  overflowMarks : Nat
  quarantineEarly : Nat
  lineGarbled : Nat
  relationsEnded : Nat
  deriving DecidableEq, Repr

/-- R173–R182: the Request Port but for the configuration record. -/
structure RequestPort where
  assembling : Option Request
  queue : List Request
  running : Option LoopTest
  completions : List Completion
  readPos : Nat
  latch : BitVec 16
  enable : BitVec 16
  counters : Counters
  drops : Nat
  deriving DecidableEq, Repr

/-- R183: the configuration record. -/
structure ConfigRecord where
  tickInterval : Nat
  heartbeat : Nat
  beatsLost : Nat
  listenPeriod : Nat
  grace : Nat
  healthHold : Nat
  yieldTimeout : Nat
  priority : Nat
  preempt : Bool
  timeouts : Vector Nat 8
  slackFloor : Nat
  slackCeiling : Nat
  addrCount : Nat
  addrs : Vector Word 4
  staticBlocks : Nat
  quarantineHold : Nat
  poolLow : Nat
  seed : Word
  deriving DecidableEq, Repr

/-! ### The other blocks -/

/-- R47, R52: the Aging Unit. `owed` is how many visits the walker still owes. -/
structure Aging where
  msCount : Nat
  ticks : Word
  position : Nat
  owed : Nat
  deriving DecidableEq, Repr

/-- R67: an entry of the quarantine list. -/
structure Quarantined where
  port : NatPart
  since : Word
  deriving DecidableEq, Repr

/-- R63, R66, R72: the Port Pool. `bound` lists the bound lane-region ports by rising index and port; a port of neither list
is free. `addrCount` and `staticBlocks` are the geometry of the last binding pass (R74). -/
structure Pool where
  addrCount : Nat
  staticBlocks : Nat
  bound : List NatPart
  quarantine : List Quarantined
  cursors : Vector Nat 4
  armed : Vector Bool 4
  laneMode : LaneMode
  deriving DecidableEq, Repr

/-- R78, R87: the Delta Queue, oldest entry first. -/
structure DeltaQueue where
  entries : List Entry
  catchup : Bool
  catchupCursor : Nat
  deriving DecidableEq, Repr

/-- R104: an in-flight DELTA frame. `sentAt` is the end of its latest send and `none` while a send is waiting;
`endsSweep` says that it carries the SWEEP_END of the running sweep (R134). -/
structure InFlight where
  seq : Byte
  records : List Delta
  attempts : Nat
  sentAt : Option Nat
  endsSweep : Bool
  deriving DecidableEq, Repr

/-- R99: the transmitter: the frame being sent, and the frames waiting, one field for each step of the precedence. DELTA
frames wait by their sequence numbers. -/
structure Transmitter where
  sending : Option Frame
  hello : List HelloPage
  acks : List Byte
  beat : Option Beat
  resend : List Byte
  fresh : List Byte
  returned : List Probe
  outbound : List Probe
  deriving DecidableEq, Repr

/-- Chapter 6: the Pair Port. The three flags are the markers handed to the frame builder and not yet placed (R104). `applying` lists
the records of a DELTA frame that the receiver is applying and has not applied yet (R109, R112); no frame is in progress when it is
empty. -/
structure PairPort where
  carrier : Bool
  link : LinkState
  nextSeq : Byte
  inFlight : List InFlight
  expected : Byte
  applying : List Delta
  heartbeat : Option Nat
  silence : Option Nat
  lastEnd : EndReason
  sweepBegin : Bool
  sweepEnd : Bool
  yieldMarker : Bool
  tx : Transmitter
  deriving DecidableEq, Repr

/-- R126: the page a refusal names, and whether the peer refused it. -/
structure RefusalReason where
  page : Nat
  byPeer : Bool
  deriving DecidableEq, Repr

/-- R119: the hello state. The two timers are held as the reference-clock time at which they were last restarted.
`sentIdentity` is the last page 1 this side sent (R128). -/
structure Hello where
  ownPage : Nat
  toggle : Bool
  taken : Nat
  ackToggle : Bool
  exchange : Byte
  ackExchange : Byte
  comply : Bool
  peerIdentity : Option Identity
  sentIdentity : Option Identity
  pacingSince : Nat
  helloSince : Nat
  refusal : Option RefusalReason
  deriving DecidableEq, Repr

/-- R130, R132: the Sweep Engine. -/
structure Sweep where
  state : SweepState
  cursor : Nat
  scanCount : Nat
  deriving DecidableEq, Repr

/-- R139, R140: the Role Line driver. `pattern` none is held low; `bit` is the bit (0 to 11) of the repetition in progress;
`bitSince` is when it began; `lowSince` is when the low run in progress began. -/
structure Driver where
  pattern : Option LinePattern
  bit : Option Nat
  bitSince : Nat
  lowSince : Option Nat
  deriving DecidableEq, Repr

/-- R141: whether the monitor is assembling a repetition. -/
inductive Alignment where
  | aligned (t0 : Nat)
  | unaligned (since : Nat)
  deriving DecidableEq, Repr

/-- Chapter 8: the Role Line monitor. `lastRise` is when the silence timer was last restarted, and `none` once the timer has
expired, until the next rising edge. -/
structure Monitor where
  cls : LineClass
  alignment : Alignment
  samples : List Bool
  matchPattern : LinePattern
  matchCount : Nat
  missRun : Nat
  edgeSeen : Bool
  lastRise : Option Nat
  deriving DecidableEq, Repr

/-- R150: the peer view, but for the line class and the link state, which the monitor and the Pair Port hold. `role` none is
the NONE of R172. -/
structure PeerView where
  role : Option Role
  health : Nat
  priority : Nat
  letter : Byte
  live : Nat
  sweep : SweepState
  lagging : Bool
  hold : Bool
  deriving DecidableEq, Repr

/-- R149: the Role Arbiter. A stopped timer is `none`; `grace` runs only in TAKEOVER. `yieldHanded` says that this yield's
marker has been handed over (R163). -/
structure Arbiter where
  role : Role
  health : Nat
  hold : Bool
  epoch : BitVec 16
  takeoverTick : Word
  grace : Nat
  listen : Option (ListenPurpose × Nat)
  healthHold : Option Nat
  yieldTimer : Option Nat
  yieldTaken : Bool
  yieldHanded : Bool
  peer : PeerView
  deriving DecidableEq, Repr

/-- The MODEL's own (assumption 4): what the last tick found due. R185 compares each count with its period at a tick; the
event that follows is a command of its own. -/
structure TickDue where
  heartbeat : Bool
  silence : Bool
  listen : Bool
  healthHold : Bool
  yieldTimer : Bool
  quarantine : Bool
  deriving DecidableEq, Repr

/-- The whole part. `clock` (the reference clock, in periods since power-on), `busData` (what the last read of the memory
window returned), `due` and `pending` are the model's own; the rest is the manual's. -/
structure State where
  pending : List Instr
  clock : Nat
  resetLow : Bool
  letter : UnitLetter
  busData : Word
  req : RequestPort
  cfg : ConfigRecord
  table : Table
  aging : Aging
  pool : Pool
  dq : DeltaQueue
  port : PairPort
  hello : Hello
  sweep : Sweep
  driver : Driver
  monitor : Monitor
  arb : Arbiter
  due : TickDue
  deriving DecidableEq, Repr

/-! ### Reset values -/

/-- R183: the defaults of the configuration record. -/
def ConfigRecord.defaults : ConfigRecord where
  tickInterval := 100
  heartbeat := 1
  beatsLost := 3
  listenPeriod := 30
  grace := 600
  healthHold := 50
  yieldTimeout := 20
  priority := 8
  preempt := false
  timeouts := #v[36000, 300, 1200, 1800, 300, 600, 600, 600]
  slackFloor := 65536
  slackCeiling := 16777216
  addrCount := 1
  addrs := #v[0, 0, 0, 0]
  staticBlocks := 4
  quarantineHold := 1200
  poolLow := 256
  seed := 0

/-- R181: the counters at 0. -/
def Counters.zero : Counters := ⟨0, 0, 0, 0, 0, 0, 0, 0⟩

/-- R190: the Request Port after power-on. -/
def RequestPort.initial : RequestPort where
  assembling := none
  queue := []
  running := none
  completions := []
  readPos := 0
  latch := 0
  enable := 0
  counters := Counters.zero
  drops := 0

/-- R60: the Aging Unit after power-on. -/
def Aging.initial : Aging := ⟨0, 0, 0, 0⟩

/-- R77: the Port Pool after power-on: the default geometry, cursors at the lane-region start 1,280. -/
def Pool.initial : Pool where
  addrCount := 1
  staticBlocks := 4
  bound := []
  quarantine := []
  cursors := #v[1280, 1280, 1280, 1280]
  armed := #v[true, true, true, true]
  laneMode := .own

/-- R95: the Delta Queue after any reset. -/
def DeltaQueue.initial : DeltaQueue := ⟨[], false, 0⟩

/-- No frame in transmission and none waiting. -/
def Transmitter.initial : Transmitter := ⟨none, [], [], none, [], [], [], []⟩

/-- R118: the Pair Port after power-on. -/
def PairPort.initial : PairPort where
  carrier := false
  link := .down
  nextSeq := 0
  inFlight := []
  expected := 0
  heartbeat := none
  silence := none
  applying := []
  lastEnd := .none
  sweepBegin := false
  sweepEnd := false
  yieldMarker := false
  tx := Transmitter.initial

/-- R137: the hello state after power-on at reference-clock time `clock`. -/
def Hello.initial (clock : Nat) : Hello where
  ownPage := 1
  toggle := false
  taken := 0
  ackToggle := true
  exchange := 0
  ackExchange := 0
  comply := true
  peerIdentity := none
  sentIdentity := none
  pacingSince := clock
  helloSince := clock
  refusal := none

/-- R137: the Sweep Engine after any reset. -/
def Sweep.initial : Sweep := ⟨.idle, 0, 0⟩

/-- R148: the driver held low from reference-clock time `clock`. -/
def Driver.initial (clock : Nat) : Driver := ⟨none, none, clock, some clock⟩

/-- R148: the monitor after power-on at reference-clock time `clock`. -/
def Monitor.initial (clock : Nat) : Monitor where
  cls := .silent
  alignment := .unaligned clock
  samples := []
  matchPattern := .active
  matchCount := 0
  missRun := 0
  edgeSeen := false
  lastRise := some clock

/-- R172: the peer fields after power-on. -/
def PeerView.initial : PeerView := ⟨none, 0, 0, 0, 0, .idle, false, false⟩

/-- R172: the arbiter after power-on. -/
def Arbiter.initial : Arbiter where
  role := .boot
  health := 7
  hold := false
  epoch := 0
  takeoverTick := 0
  grace := 0
  listen := none
  healthHold := none
  yieldTimer := none
  yieldTaken := false
  yieldHanded := false
  peer := PeerView.initial

/-- No tick has found anything due. -/
def TickDue.none : TickDue := ⟨false, false, false, false, false, false⟩

/-- Every block at its power-on value (R197), at reference-clock time `clock`, with this strap sample. -/
def State.initial (clock : Nat) (letter : UnitLetter) (resetLow : Bool) (pending : List Instr) : State where
  pending := pending
  clock := clock
  resetLow := resetLow
  letter := letter
  busData := 0
  req := RequestPort.initial
  cfg := ConfigRecord.defaults
  table := []
  aging := Aging.initial
  pool := Pool.initial
  dq := DeltaQueue.initial
  port := PairPort.initial
  hello := Hello.initial clock
  sweep := Sweep.initial
  driver := Driver.initial clock
  monitor := Monitor.initial clock
  arb := Arbiter.initial
  due := TickDue.none

/-- The machine right after power-on, out of reset, strapped as unit A (assumption 5), with no command waiting. -/
def State.reset : State := State.initial 0 .a false []

/-! ### Block updates. Laws/State.lean says of each, once, what it writes and what it leaves. -/

namespace State

/-- `s` with this memory-window read result. -/
def withBusData (s : State) (x : Word) : State := { s with busData := x }
/-- `s` with this reference-clock time. -/
def withClock (s : State) (x : Nat) : State := { s with clock := x }
/-- `s` with this queue of commands. -/
def withPending (s : State) (x : List Instr) : State := { s with pending := x }
/-- `s` with this Request Port. -/
def withReq (s : State) (x : RequestPort) : State := { s with req := x }
/-- `s` with this configuration record. -/
def withCfg (s : State) (x : ConfigRecord) : State := { s with cfg := x }
/-- `s` with this Session Table. -/
def withTable (s : State) (x : Table) : State := { s with table := x }
/-- `s` with this Aging Unit. -/
def withAging (s : State) (x : Aging) : State := { s with aging := x }
/-- `s` with this Port Pool. -/
def withPool (s : State) (x : Pool) : State := { s with pool := x }
/-- `s` with this Delta Queue. -/
def withDq (s : State) (x : DeltaQueue) : State := { s with dq := x }
/-- `s` with this Pair Port. -/
def withPort (s : State) (x : PairPort) : State := { s with port := x }
/-- `s` with this hello state. -/
def withHello (s : State) (x : Hello) : State := { s with hello := x }
/-- `s` with this Sweep Engine. -/
def withSweep (s : State) (x : Sweep) : State := { s with sweep := x }
/-- `s` with this Role Line driver. -/
def withDriver (s : State) (x : Driver) : State := { s with driver := x }
/-- `s` with this Role Line monitor. -/
def withMonitor (s : State) (x : Monitor) : State := { s with monitor := x }
/-- `s` with this Role Arbiter. -/
def withArb (s : State) (x : Arbiter) : State := { s with arb := x }
/-- `s` with these due events. -/
def withDue (s : State) (x : TickDue) : State := { s with due := x }

/-! Reads that every block uses. -/

/-- This unit's role. -/
def role (s : State) : Role := s.arb.role
/-- R49: now, the tick count. -/
def now (s : State) : Word := s.aging.ticks
/-- A relation exists while the link state is UP (R96). -/
def up (s : State) : Bool := decide (s.port.link = .up)

end State

end Sys2Proof.Machine
end

