-- ==== Sys2Proof/Machine/Flags.lean ====
section
/-! DEFINITION. The event latch, the event enable, the interrupt pin and the counters (R179–R182). -/

namespace Sys2Proof.Machine

/-- R191: the bit of an event in the latch and in the enable. -/
def Event.bit : Event → Nat
  | .roleChanged => 0
  | .relationUp => 1
  | .relationEnded => 2
  | .syncComplete => 3
  | .queueOverflow => 4
  | .catchupDone => 5
  | .incompatible => 6
  | .splitResolved => 7
  | .graceEnded => 8
  | .partialTakeover => 9
  | .yieldFailed => 10
  | .poolLow => 11
  | .requestOverrun => 12
  | .lineFault => 13
  | .completionReady => 14
  | .resetDone => 15

/-- The latch word with only this event. -/
def Event.mask (e : Event) : BitVec 16 := 1#16 <<< e.bit

namespace State

/-- R179: latch an event. A bit already set stays set. -/
def latch (e : Event) (s : State) : State := s.withReq { s.req with latch := s.req.latch ||| e.mask }

/-- Whether an event is latched. -/
def latched (s : State) (e : Event) : Bool := s.req.latch.getLsbD e.bit

/-- R179: the interrupt is asserted while any event is both latched and enabled. -/
def interrupt (s : State) : Bool := decide (s.req.latch &&& s.req.enable ≠ 0)

/-- R181: a counter increased by `n`, staying at 65,535. -/
def saturate (count n : Nat) : Nat := min Config.counterMax (count + n)

/-- Write the eight counters. -/
def withCounters (s : State) (c : Counters) : State := s.withReq { s.req with counters := c }

/-- R107: DELTA frames resent. -/
def countResent (n : Nat) (s : State) : State :=
  s.withCounters { s.req.counters with framesResent := saturate s.req.counters.framesResent n }
/-- R98, R109: a frame discarded. -/
def countDiscarded (s : State) : State :=
  s.withCounters { s.req.counters with framesDiscarded := saturate s.req.counters.framesDiscarded 1 }
/-- R82, R83: an offer merged or cancelled. -/
def countCoalesced (s : State) : State :=
  s.withCounters { s.req.counters with deltasCoalesced := saturate s.req.counters.deltasCoalesced 1 }
/-- R84: a REFRESH withheld at the watermark. -/
def countSuppressed (s : State) : State :=
  s.withCounters { s.req.counters with refreshSuppressed := saturate s.req.counters.refreshSuppressed 1 }
/-- R85: a dirty mark newly set. -/
def countOverflow (s : State) : State :=
  s.withCounters { s.req.counters with overflowMarks := saturate s.req.counters.overflowMarks 1 }
/-- R67: an early release from a full quarantine list. -/
def countEarly (s : State) : State :=
  s.withCounters { s.req.counters with quarantineEarly := saturate s.req.counters.quarantineEarly 1 }
/-- R142: an unmatched repetition. -/
def countGarbled (s : State) : State :=
  s.withCounters { s.req.counters with lineGarbled := saturate s.req.counters.lineGarbled 1 }
/-- R113: a relation end. -/
def countEnded (s : State) : State :=
  s.withCounters { s.req.counters with relationsEnded := saturate s.req.counters.relationsEnded 1 }

end State

end Sys2Proof.Machine
end

