-- ==== Sys2Proof/Machine/Modular.lean ====
section
/-! DEFINITION. Modular order (section 2.1): the one signed reading by which the part compares counts that wrap. -/

namespace Sys2Proof.Machine

/-- R26: signed(y − x) on the count to which `x` and `y` belong. -/
def signedDiff {n : Nat} (y x : BitVec n) : Int := (y - x).toInt

/-- R27: `y` is later than `x`. -/
def later {n : Nat} (y x : BitVec n) : Bool := decide (0 < signedDiff y x)

/-- R27: `y` is earlier than `x`. -/
def earlier {n : Nat} (y x : BitVec n) : Bool := decide (signedDiff y x < 0)

end Sys2Proof.Machine
end

