-- ==== Sys2Proof/Machine/Ops.lean ====
section
/-! DEFINITION. Operations every command shares: the reset gate, the reference clock, the Session Table as a sparse list
of slots in one canonical form, and the executor's completions. -/

namespace Sys2Proof.Machine

/-! ### The reset gate and the clock -/

/-- R197: while RESET_N is low every block stays at its reset values, so nothing but the reset pin and power act. -/
def whenRunning (s : State) (f : State → State) : State := if s.resetLow then s else f s

/-- The outcome of every command: a next state (assumption 6). -/
abbrev Result := Host.Outcome State Fault Refusal

/-- The reference-clock time at which the millisecond in progress began. -/
def State.msStart (s : State) : Nat := s.clock / Config.periodsPerMs * Config.periodsPerMs

/-- Assumption 3: the reference clock stands `phase` periods into the millisecond in progress, or later if an earlier event
of that millisecond was later. -/
def State.atPhase (phase : Nat) (s : State) : State :=
  s.withClock (max s.clock (s.msStart + min phase (Config.periodsPerMs - 1)))

/-- R47: `n` whole milliseconds of the reference clock end. -/
def State.passMs (n : Nat) (s : State) : State := s.withClock (s.msStart + Config.ms n)

/-- Whether `n` milliseconds of the reference clock have passed since `t`. -/
def State.elapsedMs (s : State) (t n : Nat) : Bool := decide (t + Config.ms n ≤ s.clock)

/-! ### The table's canonical form -/

/-- The slot at an index: an unlisted one is blank. -/
def tableGet : Table → Nat → Slot
  | [], _ => Slot.blank
  | (j, x) :: rest, i => if i = j then x else tableGet rest i

/-- Writes a slot, keeping the list strictly rising and free of blank slots. -/
def tablePut : Table → Nat → Slot → Table
  | [], i, x => if x = Slot.blank then [] else [(i, x)]
  | (j, y) :: rest, i, x =>
    if i < j then (if x = Slot.blank then (j, y) :: rest else (i, x) :: (j, y) :: rest)
    else if i = j then (if x = Slot.blank then rest else (i, x) :: rest)
    else (j, y) :: tablePut rest i x

/-- Applies a change to every listed slot. The change must leave a blank slot blank. -/
def tableMap (f : Nat → Slot → Slot) : Table → Table
  | [] => []
  | (j, y) :: rest => if f j y = Slot.blank then tableMap f rest else (j, f j y) :: tableMap f rest

/-- The canonical form: indices strictly rising and below 16,896, no blank slot listed. -/
def tableWf : Table → Bool
  | [] => true
  | (j, y) :: rest =>
    decide (j < Config.slotCount) && decide (y ≠ Slot.blank) && rest.all (fun e => decide (j < e.1)) && tableWf rest

/-! ### Slots of a state -/

/-- The record of a LIVE slot. -/
def Slot.live? (x : Slot) : Option Record := match x.body with
  | .live r => some r
  | _ => none

/-- The record of a DOOMED slot. -/
def Slot.doomed? (x : Slot) : Option Record := match x.body with
  | .doomed r => some r
  | _ => none

/-- The record of a LIVE or DOOMED slot. -/
def Slot.record? (x : Slot) : Option Record := match x.body with
  | .live r => some r
  | .doomed r => some r
  | .free => none

/-- Whether a slot is FREE. -/
def Slot.isFree (x : Slot) : Bool := match x.body with
  | .free => true
  | _ => false

/-- The slot FREE, with its version kept (R3). -/
def Slot.freed (x : Slot) : Slot := ⟨x.version, .free⟩

/-- R6: changes the record a slot holds, in whatever state it stands. -/
def Slot.mapRecord (f : Record → Record) (x : Slot) : Slot := match x.body with
  | .live r => ⟨x.version, .live (f r)⟩
  | .doomed r => ⟨x.version, .doomed (f r)⟩
  | .free => x

/-- R92: the marks all clear. -/
def Marks.clear : Marks := ⟨false, false, false⟩

namespace State

/-- The slot at an index. -/
def slot (s : State) (i : Nat) : Slot := tableGet s.table i

/-- Writes a slot. -/
def setSlot (i : Nat) (x : Slot) (s : State) : State := s.withTable (tablePut s.table i x)

/-- Changes the record of a slot, version kept. -/
def mapSlotRecord (i : Nat) (f : Record → Record) (s : State) : State := s.setSlot i ((s.slot i).mapRecord f)

/-- R24: the number of LIVE slots. -/
def liveCount (s : State) : Nat := (s.table.filter (fun e => e.2.live?.isSome)).length

/-- Whether a slot's dirty mark is set. -/
def dirtyAt (s : State) (i : Nat) : Bool := ((s.slot i).record?.map (·.marks.dirty)).getD false

/-- R86: the number of slots whose dirty mark is set. -/
def dirtyCount (s : State) : Nat :=
  (s.table.filter (fun e => (e.2.record?.map (·.marks.dirty)).getD false)).length

/-- R78: the number of entries of the delta queue. -/
def occupancy (s : State) : Nat := s.dq.entries.length

/-- R149: whether the role is on the active side. -/
def onActiveSide (s : State) : Bool := match s.role with
  | .active | .takeover | .yielding => true
  | _ => false

/-- Whether the role is ACTIVE or TAKEOVER: the roles that admit the table requests (section 9.8) and whose offers, walker and
catch-up run. -/
def forwarding (s : State) : Bool := match s.role with
  | .active | .takeover => true
  | _ => false

end State

/-! ### The executor -/

/-- R192: the kind of a request. -/
def Request.kind (r : Request) : BitVec 6 := r.header.extractLsb' 26 6
/-- R192: the body length the header gives. -/
def Request.bodyWords (r : Request) : Nat := (r.header.extractLsb' 21 5).toNat
/-- R192: the tag. -/
def Request.tag (r : Request) : BitVec 16 := r.header.extractLsb' 0 16
/-- The n-th body word; a word the body does not have is not read by any entry and reads 0. -/
def Request.word (r : Request) (n : Nat) : Word := r.body.getD n 0

namespace State

/-- R176: the request the executor can begin now: it executes no other, the completion queue holds fewer than 64, and the
request stands at the head of the request queue. -/
def readyRequest (s : State) : Option Request :=
  if s.req.running.isSome || decide (Config.completionLimit ≤ s.req.completions.length) then none
  else s.req.queue.head?

/-- R175: a request leaves the request queue when the executor begins it. -/
def beginRequest (s : State) : State := s.withReq { s.req with queue := s.req.queue.tail }

/-- R177: posts a completion and latches COMPLETION_READY. -/
def post (kind : BitVec 6) (tag : BitVec 16) (status : Status) (result : List Word) (s : State) : State :=
  (s.withReq { s.req with completions := s.req.completions ++ [⟨kind, status, tag, result⟩] }).latch .completionReady

/-- R177: posts the completion of a request, its tag and kind echoed. -/
def complete (r : Request) (status : Status) (result : List Word) (s : State) : State :=
  s.post r.kind r.tag status result

end State

end Sys2Proof.Machine
end

