-- ==== Sys2Proof/Machine/RoleLine.lean ====
section
/-! DEFINITION. The Role Line (chapter 8): patterns, the driver and the monitor. -/

namespace Sys2Proof.Machine

/-- R138: bits 1 to 8 of a pattern. -/
def LinePattern.bits : LinePattern → List Bool
  | .active => [true, true, true, false, true, true, true, true]
  | .standby => [true, false, true, true, false, true, false, true]
  | .waiting => [true, false, false, true, false, false, false, true]

/-- R138: the level of a bit of a repetition, counted from 0; bits 9 to 12 are the pause. -/
def LinePattern.level (p : LinePattern) (i : Nat) : Bool := p.bits.getD i false

/-- R143: the class a pattern's name gives. -/
def LinePattern.toClass : LinePattern → LineClass
  | .active => .active
  | .standby => .standby
  | .waiting => .waiting

/-- R139: the driver pattern of a role; none is held low. -/
def Role.pattern : Role → Option LinePattern
  | .boot => none
  | .listen | .joining | .isolated => some .waiting
  | .standby => some .standby
  | .active | .takeover | .yielding => some .active

/-! ### The driver -/

/-- R138: a bit time and the pause before a new pattern. -/
def bitTime : Nat := Config.ms 4
def lowRunBefore : Nat := Config.ms 16

namespace Driver

/-- The level of ROLE_OUT. -/
def level (d : Driver) : Bool := match d.pattern, d.bit with
  | some p, some i => p.level i
  | _, _ => false

/-- R140: when the low run began of a line driven low at `clock`: a line that is low already stays low. -/
def lowFrom (clock : Nat) (d : Driver) : Nat := if d.level then clock else d.lowSince.getD clock

/-- R197, R140: the driver in reset at `clock`: no pattern, the line driven low, the low run counting from when the line went
low. -/
def held (clock : Nat) (d : Driver) : Driver := { Driver.initial clock with lowSince := some (d.lowFrom clock) }

/-- R140: the pattern changes at `clock`: the line is driven low, and bit 1 of the new pattern begins when it has been low for
16 ms, which may be at once. -/
def setPattern (clock : Nat) (p : Option LinePattern) (d : Driver) : Driver :=
  if d.pattern = p then d
  else
    let low := d.lowFrom clock
    match p with
    | none => { d with pattern := none, bit := none, lowSince := some low }
    | some _ =>
      if low + lowRunBefore ≤ clock then { pattern := p, bit := some 0, bitSince := clock, lowSince := none }
      else { d with pattern := p, bit := none, lowSince := some low }

/-- R138, R140: a bit time ends, or the low run before a pending pattern reaches 16 ms. -/
def bitEnd (clock : Nat) (d : Driver) : Driver :=
  match d.pattern with
  | none => d
  | some p => match d.bit with
    | some i =>
      let t := d.bitSince + bitTime
      if t ≤ clock then
        let j := (i + 1) % 12
        { d with
          bit := some j
          bitSince := t
          lowSince := if p.level j then none else if p.level i then some t else some (d.lowSince.getD t) }
      else d
    | none =>
      let t := d.lowSince.getD clock + lowRunBefore
      if t ≤ clock then { d with bit := some 0, bitSince := t, lowSince := none } else d

end Driver

/-! ### The monitor -/

/-- R141: a rising edge that ends a low run of 14 ms or more is an alignment edge. -/
def isAlignmentEdge (lowRun : Nat) : Bool := decide (Config.ms 14 ≤ lowRun)

/-- R142: the pattern a closed repetition matches: all 8 samples equal its bits, and the closing edge arrives 46 to 50 ms
after t0, both included. -/
def matchedPattern (samples : List Bool) (length : Nat) : Option LinePattern :=
  if Config.ms 46 ≤ length ∧ length ≤ Config.ms 50 then
    [LinePattern.active, .standby, .waiting].find? (fun p => decide (samples = p.bits))
  else none

namespace Monitor

/-- R143: a judged or recorded repetition updates the runs and may settle the class. -/
def recorded (verdict : Option LinePattern) (m : Monitor) : Monitor := match verdict with
  | some p =>
    if m.matchPattern = p ∧ 0 < m.matchCount then { m with matchCount := 2, missRun := 0, cls := p.toClass }
    else { m with matchPattern := p, matchCount := 1, missRun := 0 }
  | none =>
    if m.missRun < 2 then { m with matchCount := 0, missRun := m.missRun + 1 }
    else { m with matchCount := 0, missRun := 3, cls := .garbled }

/-- R142, R144: UNALIGNED, a new period starting, edge seen clear. -/
def unalign (clock : Nat) (m : Monitor) : Monitor := { m with alignment := .unaligned clock, samples := [], edgeSeen := false }

/-- R141: ALIGNED at an edge, a new repetition starting. -/
def align (clock : Nat) (m : Monitor) : Monitor := { m with alignment := .aligned clock, samples := [], edgeSeen := false }

/-- R144: a rising edge restarts the silence timer. -/
def rose (clock : Nat) (m : Monitor) : Monitor := { m with lastRise := some clock }

/-- R142: a rising edge in an unaligned period sets edge seen. -/
def edgeInPeriod (m : Monitor) : Monitor := match m.alignment with
  | .unaligned _ => { m with edgeSeen := true }
  | .aligned _ => m

/-- R141: the moment of the next sample: 2, 6, … 30 ms after t0. -/
def sampleDue (m : Monitor) (clock : Nat) : Bool := match m.alignment with
  | .aligned t0 => decide (m.samples.length < 8) && decide (clock = t0 + Config.ms (2 + 4 * m.samples.length))
  | .unaligned _ => false

/-- R141: a sample is stored. -/
def sampled (clock : Nat) (level : Bool) (m : Monitor) : Monitor :=
  if m.sampleDue clock then { m with samples := m.samples ++ [level] } else m

/-- R144: the silence timer expires. -/
def silenced (clock : Nat) (m : Monitor) : Monitor := { m.unalign clock with cls := .silent, matchCount := 0, missRun := 0, lastRise := none }

end Monitor

end Sys2Proof.Machine
end

