-- ==== Sys2Proof/Machine/Keys.lean ====
section
/-! DEFINITION. Keys and their hash (section 1.2). -/

namespace Sys2Proof.Machine

/-- Protocol numbers the manual names (R4). -/
def protoIcmp : Byte := 1
def protoTcp : Byte := 6
def protoUdp : Byte := 17

/-- R4: the key with its ports normalised. -/
def Key.normalise (k : Key) : Key :=
  if k.protocol = protoTcp ∨ k.protocol = protoUdp then k
  else if k.protocol = protoIcmp then { k with outsidePort := 0 }
  else { k with insidePort := 0, outsidePort := 0 }

/-- The third word of a key (R192) and the third term of the hash (R5): inside port × 65,536 + outside port. -/
def Key.portWord (k : Key) : Word := k.insidePort ++ k.outsidePort

/-- The fourth word of a key (R192) and the fourth term of the hash (R5): zone × 256 + protocol. -/
def Key.zoneWord (k : Key) : Word := (0#20 ++ k.zone) ++ k.protocol

/-- R5, step 1. -/
def Key.hash0 (k : Key) (seed : Word) : Word :=
  k.insideAddr ^^^ k.outsideAddr ^^^ k.portWord ^^^ k.zoneWord ^^^ seed

/-- R5, steps 2 and 3: the bucket of a key. -/
def Key.bucket (k : Key) (seed : Word) : Nat :=
  let h0 := k.hash0 seed
  (h0 ^^^ (h0 >>> 12) ^^^ (h0 >>> 24)).toNat % Config.bucketCount

end Sys2Proof.Machine
end

