-- ==== Sys2Proof/Machine/Formats.lean ====
section
/-! DEFINITION. The pair frames as bytes (section 11.4): how a received payload is read, by name refused where R98 and R194
discard it, and how a frame is written. -/

namespace Sys2Proof.Machine

/-! ### Bytes and words -/

/-- R194: a big-endian 32-bit word. -/
def wordBytes (w : Word) : List Byte := [w.extractLsb' 24 8, w.extractLsb' 16 8, w.extractLsb' 8 8, w.extractLsb' 0 8]

/-- R194: a big-endian 16-bit value. -/
def halfBytes (w : BitVec 16) : List Byte := [w.extractLsb' 8 8, w.extractLsb' 0 8]

/-- Reads a big-endian word. -/
def takeWord : List Byte → Option (Word × List Byte)
  | a :: b :: c :: d :: rest => some (a ++ b ++ c ++ d, rest)
  | _ => none

/-- A flag as one bit. -/
def bit (b : Bool) : BitVec 1 := BitVec.ofBool b

/-- R193: the role codes, BOOT 0 upward. -/
def Role.code : Role → Nat
  | .boot => 0 | .listen => 1 | .joining => 2 | .standby => 3 | .active => 4 | .takeover => 5 | .yielding => 6 | .isolated => 7

/-- R194: a role code above 7 is refused. -/
def roleOfCode : Nat → Option Role
  | 0 => some .boot | 1 => some .listen | 2 => some .joining | 3 => some .standby
  | 4 => some .active | 5 => some .takeover | 6 => some .yielding | 7 => some .isolated
  | _ => none

/-- R196: the sweep state codes. -/
def SweepState.code : SweepState → Nat
  | .idle => 0 | .sweeping => 1 | .draining => 2

/-- R194: a sweep state code of 3 is refused. -/
def sweepOfCode : Nat → Option SweepState
  | 0 => some .idle | 1 => some .sweeping | 2 => some .draining
  | _ => none

/-! ### Keys and parts, as in requests (R192) -/

/-- R192: the four words of a key. -/
def Key.words (k : Key) : List Word := [k.insideAddr, k.outsideAddr, k.portWord, k.zoneWord]

/-- R192: the key in four words. -/
def keyOfWords (w0 w1 w2 w3 : Word) : Key where
  zone := w3.extractLsb' 8 4
  protocol := w3.extractLsb' 0 8
  insideAddr := w0
  insidePort := w2.extractLsb' 16 16
  outsideAddr := w1
  outsidePort := w2.extractLsb' 0 16

/-- R192: the scales word: scale_OUT in bits 7–0, scale_IN in bits 15–8. -/
def TcpPart.scalesWord (p : TcpPart) : Word := 0#16 ++ p.inDir.scale ++ p.outDir.scale

/-- R192: the seven words of a TCP part. -/
def TcpPart.words (p : TcpPart) : List Word :=
  [p.outDir.edge, p.outDir.wend, p.outDir.maxwin, p.inDir.edge, p.inDir.wend, p.inDir.maxwin, p.scalesWord]

/-- R192: the TCP part in seven words. -/
def tcpOfWords (w0 w1 w2 w3 w4 w5 w6 : Word) : TcpPart where
  outDir := ⟨w0, w1, w2, w6.extractLsb' 0 8⟩
  inDir := ⟨w3, w4, w5, w6.extractLsb' 8 8⟩

/-- Reads a key. -/
def takeKey (b : List Byte) : Option (Key × List Byte) := do
  let (w0, b) ← takeWord b
  let (w1, b) ← takeWord b
  let (w2, b) ← takeWord b
  let (w3, b) ← takeWord b
  return (keyOfWords w0 w1 w2 w3, b)

/-- Reads a TCP part. -/
def takeTcp (b : List Byte) : Option (TcpPart × List Byte) := do
  let (w0, b) ← takeWord b
  let (w1, b) ← takeWord b
  let (w2, b) ← takeWord b
  let (w3, b) ← takeWord b
  let (w4, b) ← takeWord b
  let (w5, b) ← takeWord b
  let (w6, b) ← takeWord b
  return (tcpOfWords w0 w1 w2 w3 w4 w5 w6, b)

/-! ### DELTA records (R195) -/

/-- R195: the kind codes of full records. -/
def FullKind.code : FullKind → BitVec 4
  | .create => 1 | .change => 2 | .refresh => 3 | .fill => 5

/-- R195: a record's header word. -/
def deltaHeader (kind : BitVec 4) (natFlag tcpFlag : Bool) (slot : BitVec 16) : Word :=
  kind ++ bit natFlag ++ bit tcpFlag ++ 0#10 ++ slot

/-- R195: the NAT word: address index in bits 17–16, public port in bits 15–0. -/
def NatPart.word (n : NatPart) : Word := 0#14 ++ n.index ++ n.port

/-- R195: the word with class, pinned and remaining ticks. -/
def FullDelta.lifeWord (d : FullDelta) : Word := d.remaining ++ 0#12 ++ bit d.pinned ++ d.cls

/-- R195: the words of a record. -/
def Delta.words : Delta → List Word
  | .full d =>
    [deltaHeader d.kind.code d.nat.isSome d.tcp.isSome d.slot, d.version] ++ d.key.words ++ [d.lifeWord, 0#16 ++ d.rate]
      ++ (d.nat.map (fun n => [n.word])).getD [] ++ (d.tcp.map (·.words)).getD []
  | .delete slot version key => [deltaHeader 4 false false slot, version] ++ key.words
  | .sweepBegin => [deltaHeader 6 false false 0]
  | .sweepEnd => [deltaHeader 7 false false 0]
  | .yieldMarker => [deltaHeader 8 false false 0]

/-- R195: the NAT part, read when its flag is set. -/
def takeNatIf (flag : Bool) (b : List Byte) : Option (Option NatPart × List Byte) :=
  if flag then do
    let (w, b) ← takeWord b
    return (some ⟨w.extractLsb' 16 2, w.extractLsb' 0 16⟩, b)
  else some (none, b)

/-- R195: the TCP part, read when its flag is set. -/
def takeTcpIf (flag : Bool) (b : List Byte) : Option (Option TcpPart × List Byte) :=
  if flag then do
    let (p, b) ← takeTcp b
    return (some p, b)
  else some (none, b)

/-- R195: the rest of a full record after its header word `h`. R194 refuses a TCP flag that disagrees with the protocol. -/
def takeFull (kind : FullKind) (h : Word) (b : List Byte) : Option (Delta × List Byte) := do
  let natFlag := h.getLsbD 27
  let tcpFlag := h.getLsbD 26
  let (version, b) ← takeWord b
  let (key, b) ← takeKey b
  let (life, b) ← takeWord b
  let (rate, b) ← takeWord b
  let (nat, b) ← takeNatIf natFlag b
  let (tcp, b) ← takeTcpIf tcpFlag b
  if tcpFlag = decide (key.protocol = protoTcp) then
    return (.full {
      kind := kind, slot := h.extractLsb' 0 16, version := version, key := key
      cls := life.extractLsb' 0 3, pinned := life.getLsbD 3, remaining := life.extractLsb' 16 16
      rate := rate.extractLsb' 0 16, nat := nat, tcp := tcp }, b)
  else none

/-- R195: one record. R194 refuses an unlisted kind. -/
def takeDelta (b : List Byte) : Option (Delta × List Byte) := do
  let (h, b) ← takeWord b
  match (h.extractLsb' 28 4).toNat with
  | 1 => takeFull .create h b
  | 2 => takeFull .change h b
  | 3 => takeFull .refresh h b
  | 4 =>
    let (version, b) ← takeWord b
    let (key, b) ← takeKey b
    return (.delete (h.extractLsb' 0 16) version key, b)
  | 5 => takeFull .fill h b
  | 6 => return (.sweepBegin, b)
  | 7 => return (.sweepEnd, b)
  | 8 => return (.yieldMarker, b)
  | _ => none

/-- The records of a frame, as many as its count says. What follows them is pad. -/
def takeDeltas : Nat → List Byte → Option (List Delta)
  | 0, _ => some []
  | n + 1, b => do
    let (d, b) ← takeDelta b
    let ds ← takeDeltas n b
    return d :: ds

/-! ### HELLO and BEAT bodies (R196) -/

/-- R124: the page number of a page's contents. -/
def PageContent.number : PageContent → Nat
  | .identity _ => 1
  | .geometry _ _ _ => 2
  | .nat _ _ _ _ _ _ => 3
  | .timers _ => 4

/-- R196: the contents of a page, bytes 4 to 23; bytes a page does not use are sent as 0. -/
def PageContent.bytes : PageContent → List Byte
  | .identity p =>
    [p.letter, p.priority, p.health, BitVec.ofNat 8 p.role.code] ++ halfBytes p.live ++ List.replicate 14 0
  | .geometry slots buckets seed => halfBytes slots ++ halfBytes buckets ++ wordBytes seed ++ List.replicate 12 0
  | .nat count blocks a0 a1 a2 a3 =>
    [count, blocks, 0, 0] ++ wordBytes a0 ++ wordBytes a1 ++ wordBytes a2 ++ wordBytes a3
  | .timers interval => halfBytes interval ++ List.replicate 18 0

/-- R196: the flags of byte 1. -/
def HelloPage.flags (p : HelloPage) : Byte := 0#4 ++ bit p.more ++ bit p.comply ++ bit p.ackToggle ++ bit p.toggle

/-- R196: the 24 bytes of a HELLO body. -/
def HelloPage.bytes (p : HelloPage) : List Byte :=
  [BitVec.ofNat 8 p.content.number, p.flags, p.exchange, p.ackExchange] ++ p.content.bytes

/-- R196: the contents of a page, from its number and the bytes after the fourth; none for a page number that is not 1–4, or
a role code above 7 (R194). -/
def pageContentOf (number : Nat) (b : List Byte) : Option PageContent :=
  match number, b with
  | 1, letter :: priority :: health :: role :: l1 :: l0 :: _ => do
    let role ← roleOfCode role.toNat
    return .identity ⟨letter, priority, health, role, l1 ++ l0⟩
  | 2, s1 :: s0 :: b1 :: b0 :: rest => do
    let (seed, _) ← takeWord rest
    return .geometry (s1 ++ s0) (b1 ++ b0) seed
  | 3, count :: blocks :: _ :: _ :: rest => do
    let (a0, rest) ← takeWord rest
    let (a1, rest) ← takeWord rest
    let (a2, rest) ← takeWord rest
    let (a3, _) ← takeWord rest
    return .nat count blocks a0 a1 a2 a3
  | 4, t1 :: t0 :: _ => some (.timers (t1 ++ t0))
  | _, _ => none

/-- R196: a HELLO body of at least 24 bytes. -/
def helloOf (body : List Byte) : Option HelloPage :=
  if body.length < 24 then none
  else match body with
    | number :: flags :: exchange :: ackExchange :: rest => do
      let content ← pageContentOf number.toNat rest
      return {
        toggle := flags.getLsbD 0, ackToggle := flags.getLsbD 1, comply := flags.getLsbD 2, more := flags.getLsbD 3
        exchange := exchange, ackExchange := ackExchange, content := content }
    | _ => none

/-- R196: byte 1 of a BEAT: priority in bits 7–4, health in bits 2–0. -/
def Beat.levels (b : Beat) : Byte := b.priority ++ 0#1 ++ b.health

/-- R196: byte 2 of a BEAT: the sweep state in bits 4–3, then the hold flag, lagging and the unit letter. -/
def Beat.marks (b : Beat) : Byte := 0#3 ++ BitVec.ofNat 2 b.sweep.code ++ bit b.hold ++ bit b.lagging ++ bit b.letter

/-- R196: the 8 bytes of a BEAT body. -/
def Beat.bytes (b : Beat) : List Byte :=
  [BitVec.ofNat 8 b.role.code, b.levels, b.marks, 0] ++ halfBytes b.live ++ [0, 0]

/-- R196: a BEAT body of at least 8 bytes; none for a role code above 7 or a sweep state code of 3 (R194). -/
def beatOf (body : List Byte) : Option Beat :=
  match body with
  | role :: levels :: marks :: _ :: l1 :: l0 :: _ :: _ :: _ => do
    let role ← roleOfCode role.toNat
    let sweep ← sweepOfCode (marks.extractLsb' 3 2).toNat
    return {
      role := role, health := levels.extractLsb' 0 3, priority := levels.extractLsb' 4 4, letter := marks.getLsbD 0
      lagging := marks.getLsbD 1, hold := marks.getLsbD 2, sweep := sweep, live := l1 ++ l0 }
  | _ => none

/-! ### Frames (R194) -/

/-- R194: the pattern of a probe: byte k holds (probe number × 4 + k) mod 256. -/
def probePattern (number : Byte) : List Byte := (List.range 32).map (fun k => number * 4 + BitVec.ofNat 8 k)

/-- R194: a probe is intact when every byte holds its value. -/
def Probe.intact (p : Probe) : Bool := decide (p.pattern = probePattern p.number)

/-- R194: the payload of a received frame, read; none where the frame fails its kind's form and R98 discards it. Reserved
and pad bytes are ignored. -/
def parseFrame (payload : List Byte) : Option Frame :=
  match payload with
  | format :: kind :: x :: y :: body =>
    if format ≠ 1 then none
    else match kind.toNat with
      | 1 => (helloOf body).map .hello
      | 2 => (beatOf body).map .beat
      | 3 =>
        if y.toNat = 0 ∨ Config.frameRecords < y.toNat then none
        else (takeDeltas y.toNat body).map (.delta x)
      | 4 => some (.ack x)
      | 5 => if body.length < 32 then none else some (.probe ⟨x, y, body.take 32⟩)
      | _ => none
  | _ => none

/-- R194: the payload of a frame before padding. -/
def Frame.bytes : Frame → List Byte
  | .hello p => [1, 1, 0, 0] ++ p.bytes
  | .beat b => [1, 2, 0, 0] ++ b.bytes
  | .delta seq ds => [1, 3, seq, BitVec.ofNat 8 ds.length] ++ ds.flatMap (fun d => d.words.flatMap wordBytes)
  | .ack next => [1, 4, next, 0]
  | .probe p => [1, 5, p.number, p.direction] ++ p.pattern

/-- R194: pad bytes bring a payload up to the Ethernet minimum, 46 bytes (PRESUMED, assumption 11). -/
def padded (b : List Byte) : List Byte := b ++ List.replicate (46 - b.length) Config.padByte

/-- R194: the frame type of a pair frame. -/
def pairFrameType : BitVec 16 := 34998

/-- R194: the Ethernet frame that carries a frame, before its frame check. -/
def Frame.ethernet (f : Frame) : List Byte :=
  let address (a : BitVec 48) : List Byte :=
    [a.extractLsb' 40 8, a.extractLsb' 32 8, a.extractLsb' 24 8, a.extractLsb' 16 8, a.extractLsb' 8 8, a.extractLsb' 0 8]
  address Config.destinationAddress ++ address Config.sourceAddress ++ halfBytes pairFrameType ++ padded f.bytes

end Sys2Proof.Machine
end

