-- ==== Sys2Proof/Machine/SessionTable.lean ====
section
/-! DEFINITION. Finding and placing records (section 1.4), looseness (section 2.3), and the TCP part's clamps (R8). -/

namespace Sys2Proof.Machine

/-- Whether a slot is LIVE with this (normalised) key. -/
def Slot.holdsKey (x : Slot) (k : Key) : Bool := match x.live? with
  | some r => decide (r.key = k)
  | none => false

/-- The ways of a bucket, way 0 first (R1). -/
def bucketWays (b : Nat) : List Nat := [4 * b, 4 * b + 1, 4 * b + 2, 4 * b + 3]

/-- Whether a slot is a spill slot with this home bucket. -/
def isSpillOf (b i : Nat) (x : Slot) : Bool :=
  decide (Config.mainSlots ≤ i) && decide ((x.record?.bind (·.home)) = some b)

/-- R10: lookup by key: the first slot whose LIVE record has the normalised key, of the bucket's ways and then of the spill slots
of that home bucket, lowest index first. -/
def lookupKey (t : Table) (seed : Word) (key : Key) : Option Nat :=
  let k := key.normalise
  let b := k.bucket seed
  match (bucketWays b).find? (fun i => (tableGet t i).holdsKey k) with
  | some i => some i
  | none => (t.find? (fun e => isSpillOf b e.1 e.2 && e.2.holdsKey k)).map (·.1)

/-- R11: the slot INSERT chooses: the lowest FREE way, else the lowest FREE spill slot. -/
def placeFor (t : Table) (bucket : Nat) : Option Nat :=
  match (bucketWays bucket).find? (fun i => (tableGet t i).isFree) with
  | some i => some i
  | none =>
    ((List.range Config.spillSlots).find? (fun n => (tableGet t (Config.mainSlots + n)).isFree)).map (Config.mainSlots + ·)

/-- R1: the home bucket a record in this slot holds: a spill slot's only. -/
def homeOf (i bucket : Nat) : Option Nat := if Config.mainSlots ≤ i then some bucket else none

/-- R8: 2^30. -/
def maxwinLimit : Word := 1073741824

/-- R8: the values of one direction as stored: scale at most 14, maxwin at most 2^30, a maxwin of 0 as 65,535. -/
def TcpDir.stored (d : TcpDir) : TcpDir :=
  { d with
    maxwin := if d.maxwin = 0 then 65535 else if maxwinLimit.toNat < d.maxwin.toNat then maxwinLimit else d.maxwin
    scale := if 14 < d.scale.toNat then 14 else d.scale }

/-- R8: a TCP part as INSERT and an applied delta store it. -/
def TcpPart.stored (p : TcpPart) : TcpPart := ⟨p.outDir.stored, p.inDir.stored⟩

/-- R8: an edge snapshot. -/
structure Snapshot where
  edgeOut : Word
  wendOut : Word
  edgeIn : Word
  wendIn : Word
  deriving DecidableEq, Repr

/-- R8: the four values written as given, maxwin and scale unchanged. -/
def TcpPart.writeSnapshot (p : TcpPart) (e : Snapshot) : TcpPart where
  outDir := { p.outDir with edge := e.edgeOut, wend := e.wendOut }
  inDir := { p.inDir with edge := e.edgeIn, wend := e.wendIn }

/-- R17: scales written, clamped at 14. -/
def TcpPart.writeScales (p : TcpPart) (scaleOut scaleIn : Byte) : TcpPart where
  outDir := { p.outDir with scale := if 14 < scaleOut.toNat then 14 else scaleOut }
  inDir := { p.inDir with scale := if 14 < scaleIn.toNat then 14 else scaleIn }

/-- R9: a base write at this tick and epoch. -/
def Record.baseWrite (r : Record) (now : Word) (epoch : BitVec 16) : Record :=
  { r with stamp := now, baseEpoch := epoch, seenEpoch := epoch, seenOut := false, seenIn := false }

/-- R9: an edge snapshot written, which is a base write. -/
def Record.snapshot (r : Record) (e : Snapshot) (now : Word) (epoch : BitVec 16) : Record :=
  Record.baseWrite { r with tcp := r.tcp.map (fun p => p.writeSnapshot e) } now epoch

/-- R32: whether a record is loose at this moment. -/
def State.loose (s : State) (r : Record) : Bool :=
  r.tcp.isSome && decide (s.role = .takeover) && decide (r.baseEpoch ≠ s.arb.epoch) &&
    !(decide (r.seenEpoch = s.arb.epoch) && r.seenOut && r.seenIn)

/-- R50: the configured timeout of a class. -/
def ConfigRecord.timeout (c : ConfigRecord) (cls : BitVec 3) : Nat := c.timeouts[cls.toNat]'(cls.isLt)

/-- R50: the refresh quantum of a class. -/
def ConfigRecord.quantum (c : ConfigRecord) (cls : BitVec 3) : Nat := max 1 (c.timeout cls / 4)

/-- R51: now + timeout(class). -/
def State.deadlineFor (s : State) (cls : BitVec 3) : Word := s.now + BitVec.ofNat 32 (s.cfg.timeout cls)

/-- R54: the expiry test on a LIVE record. -/
def State.expired (s : State) (r : Record) : Bool :=
  if r.pinned then false
  else if s.loose r then decide ((s.cfg.quantum r.cls : Int) < signedDiff s.now r.deadline)
  else decide (0 < signedDiff s.now r.deadline)

/-- R45: the rate after a TOUCH that reports these bytes. -/
def smoothedRate (rate : BitVec 16) (bytes now lastTouch : Word) : BitVec 16 :=
  let e := max 1 (now - lastTouch).toNat
  let sample := min 65535 (bytes.toNat / e)
  BitVec.ofNat 16 ((7 * rate.toNat + sample) / 8)

end Sys2Proof.Machine
end

