-- ==== Sys2Proof/Machine/PortPool.lean ====
section
/-! DEFINITION. The Public Port Pool (chapter 4): regions and lanes, conditions, binding, release and quarantine, the free
count and POOL_LOW. -/

namespace Sys2Proof.Machine

/-- R63: the conditions of a lane-region port. -/
inductive PortCondition where | free | bound | quarantined
  deriving DecidableEq, Repr

/-- R61: the first lane-region port when the first `blocks` blocks are static. -/
def laneStart (blocks : Nat) : Nat := Config.firstPort + Config.blockPorts * blocks

/-- R61: the lane of a lane-region port: lane A when its block's distance from K is even. -/
def laneOf (blocks port : Nat) : UnitLetter :=
  if ((port - Config.firstPort) / Config.blockPorts - blocks) % 2 = 0 then .a else .b

/-- R61: the ports of a lane: lane A has the first lane-region block, and one block more when their number is odd. -/
def lanePorts (blocks : Nat) : UnitLetter → Nat
  | .a => (Config.portBlocks - blocks + 1) / 2 * Config.blockPorts
  | .b => (Config.portBlocks - blocks) / 2 * Config.blockPorts

namespace Pool

/-- R61, R69: whether a NAT part names a lane-region port of an address the pool serves. -/
def serves (p : Pool) (n : NatPart) : Bool :=
  decide (n.index.toNat < p.addrCount) && decide (laneStart p.staticBlocks ≤ n.port.toNat)

/-- R63: the condition of a lane-region port. -/
def condition (p : Pool) (n : NatPart) : PortCondition :=
  if n ∈ p.bound then .bound
  else if p.quarantine.any (fun q => decide (q.port = n)) then .quarantined
  else .free

/-- The order of the list of bound ports. -/
def portKey (n : NatPart) : Nat := n.index.toNat * 65536 + n.port.toNat

/-- Adds a port to the rising list of bound ports. -/
def insertPort (n : NatPart) : List NatPart → List NatPart
  | [] => [n]
  | m :: rest => if portKey n < portKey m then n :: m :: rest else if portKey n = portKey m then m :: rest else m :: insertPort n rest

/-- R69: the port becomes bound, leaving the quarantine list wherever it stood. -/
def bind (n : NatPart) (p : Pool) : Pool :=
  { p with bound := insertPort n p.bound, quarantine := p.quarantine.filter (fun q => decide (q.port ≠ n)) }

/-- R62: the usable lanes. -/
def usableLanes (p : Pool) (letter : UnitLetter) : List UnitLetter := match p.laneMode with
  | .own => [letter]
  | .both => [.a, .b]

/-- Whether a taken port counts against this address and lane. -/
def inLane (p : Pool) (i : Nat) (lane : UnitLetter) (n : NatPart) : Bool :=
  decide (n.index.toNat = i) && decide (laneOf p.staticBlocks n.port.toNat = lane)

/-- R76: the free lane-region ports of an address in one lane. -/
def freeIn (p : Pool) (i : Nat) (lane : UnitLetter) : Nat :=
  lanePorts p.staticBlocks lane - (p.bound.filter (p.inLane i lane)).length
    - (p.quarantine.filter (fun q => p.inLane i lane q.port)).length

/-- R72: the free count of an address: its free ports in usable lanes. -/
def freeCount (p : Pool) (letter : UnitLetter) (i : Nat) : Nat :=
  ((p.usableLanes letter).map (p.freeIn i)).sum

/-- R66: the port after one, wrapping from 65,535 to the lane-region start. -/
def nextPort (p : Pool) (port : Nat) : Nat := if Config.lastPort ≤ port then laneStart p.staticBlocks else port + 1

/-- R66: the first port from `port` up, of at most `fuel`, that lies in a usable lane and is free. -/
def search (p : Pool) (letter : UnitLetter) (index : BitVec 2) : Nat → Nat → Option Nat
  | 0, _ => none
  | fuel + 1, port =>
    if decide (laneOf p.staticBlocks port ∈ p.usableLanes letter) &&
        decide (p.condition ⟨index, BitVec.ofNat 16 port⟩ = .free) then some port
    else p.search letter index fuel (p.nextPort port)

/-- R66: the cursor of an address. -/
def cursor (p : Pool) (index : BitVec 2) : Nat := p.cursors[index.toNat]'(index.isLt)

/-- R66: the number of lane-region ports of an address. -/
def regionPorts (p : Pool) : Nat := Config.lastPort + 1 - laneStart p.staticBlocks

/-- R66: what ALLOCATE finds: a port, or none for POOL_EMPTY. -/
def allocate (p : Pool) (letter : UnitLetter) (index : BitVec 2) : Option Nat :=
  p.search letter index p.regionPorts (p.cursor index)

/-- R66: the pool after ALLOCATE binds a port: the cursor moves to the port after it. -/
def allocated (p : Pool) (index : BitVec 2) (port : Nat) : Pool :=
  { p.bind ⟨index, BitVec.ofNat 16 port⟩ with cursors := p.cursors.set index.toNat (p.nextPort port) index.isLt }

/-- R67: the head entry leaves a full quarantine list. -/
def evict (p : Pool) : Pool :=
  if Config.quarantineLimit ≤ p.quarantine.length then { p with quarantine := p.quarantine.tail } else p

/-- R67: a bound port released under this hold at this tick. -/
def release (n : NatPart) (hold : Nat) (now : Word) (p : Pool) : Pool :=
  let q := { p with bound := p.bound.erase n }
  if hold = 0 then q else { q.evict with quarantine := q.evict.quarantine ++ [⟨n, now⟩] }

/-- R68: the entries from the first that has not served the hold. -/
def unserved (hold : Nat) (now : Word) : List Quarantined → List Quarantined
  | [] => []
  | q :: rest => if (hold : Int) ≤ signedDiff now q.since then unserved hold now rest else q :: rest

/-- R70, R75: every lane-region port free, the quarantine list empty. -/
def allFree (p : Pool) : Pool := { p with bound := [], quarantine := [] }

end Pool

/-! ### POOL_LOW (R72) -/

namespace State

/-- R72: the free count of an address now. -/
def freeCount (s : State) (i : Nat) : Nat := s.pool.freeCount s.letter i

/-- R72: one evaluation of an address. -/
def evaluate (i : Fin 4) (s : State) : State :=
  if s.pool.armed[i] then
    if s.freeCount i < s.cfg.poolLow then
      (s.withPool { s.pool with armed := s.pool.armed.set i false }).latch .poolLow
    else s
  else if s.cfg.poolLow ≤ s.freeCount i then s.withPool { s.pool with armed := s.pool.armed.set i true }
  else s

/-- R72: evaluates, of the addresses the pool serves, those that `which` names. -/
def evaluateWhere (which : Nat → Bool) (s : State) : State :=
  [0, 1, 2, 3].foldl (fun (s : State) (i : Fin 4) =>
    if decide (i.val < s.pool.addrCount) && which i.val then s.evaluate i else s) s

/-- R72: evaluates every address. -/
def evaluateAll (s : State) : State := s.evaluateWhere (fun _ => true)

/-- R72: changes the pool, and evaluates each address whose free count changed. -/
def changePool (f : Pool → Pool) (s : State) : State :=
  (s.withPool (f s.pool)).evaluateWhere
    (fun i => decide ((f s.pool).freeCount s.letter i ≠ s.pool.freeCount s.letter i))

/-- R71: writes the lane mode; a change evaluates every address. -/
def setLaneMode (m : LaneMode) (s : State) : State :=
  if s.pool.laneMode = m then s else (s.withPool { s.pool with laneMode := m }).evaluateAll

/-- R69: binds the port of a NAT part that names a lane-region port, whatever its condition. -/
def bindPort (n : Option NatPart) (s : State) : State := match n with
  | some n => if s.pool.serves n then s.changePool (·.bind n) else s
  | none => s

/-- R67: releases the port of a NAT part, if it is a bound lane-region port: to quarantine, or to free with a hold of 0; a full
list frees its head early. -/
def releasePort (n : Option NatPart) (s : State) : State := match n with
  | some n =>
    if n ∈ s.pool.bound then
      let early := decide (s.cfg.quarantineHold ≠ 0) && decide (Config.quarantineLimit ≤ s.pool.quarantine.length)
      let t := s.changePool (·.release n s.cfg.quarantineHold s.now)
      if early then t.countEarly else t
    else s
  | none => s

end State

end Sys2Proof.Machine
end

