-- ==== Sys2Proof/Machine/Replication.lean ====
section
/-! DEFINITION. The Delta Queue (chapter 5): offers, coalescing, overflow, the removal of a session, and the clearing of the
queue; and what a received delta writes into the table (sections 1.7 and 6.4). -/

namespace Sys2Proof.Machine

namespace State

/-! ### Entries and marks -/

/-- The kind of a slot's entry, if it has one. -/
def entryKind (s : State) (i : Nat) : Option QueueKind :=
  (s.dq.entries.find? (fun e => decide (e.slot = i))).map (·.kind)

/-- Writes the entry list. -/
def withEntries (es : List Entry) (s : State) : State := s.withDq { s.dq with entries := es }

/-- R91: removes a slot's entry, wherever it stands. -/
def removeEntry (i : Nat) (s : State) : State := s.withEntries (s.dq.entries.filter (fun e => decide (e.slot ≠ i)))

/-- Replaces the kind of a slot's entry in place. -/
def setEntryKind (i : Nat) (k : QueueKind) (s : State) : State :=
  s.withEntries (s.dq.entries.map (fun e => if e.slot = i then ⟨i, k⟩ else e))

/-- Changes a slot's marks. -/
def mapMarks (i : Nat) (f : Marks → Marks) (s : State) : State :=
  s.mapSlotRecord i (fun r => { r with marks := f r.marks })

/-- Sets or clears a slot's refresh-owed mark. -/
def setOwed (i : Nat) (owed : Bool) (s : State) : State := s.mapMarks i (fun m => { m with owed := owed })

/-! ### Offers -/

/-- R80: an offer is taken only while a relation is UP and the role is ACTIVE or TAKEOVER. -/
def offersTaken (s : State) : Bool := s.up && s.forwarding

end State

/-- R82, R83: the entry after a merge; none when a DELETE cancels a CREATE. The manual says that an offer of CREATE and an offer
onto a DELETE cannot meet an entry; the entry is then kept. -/
def mergeKind : QueueKind → QueueKind → Option QueueKind
  | .create, .delete => none
  | .create, _ => some .create
  | .change, .delete => some .delete
  | .change, _ => some .change
  | .refresh, .delete => some .delete
  | .refresh, .change => some .change
  | .refresh, _ => some .refresh
  | .delete, _ => some .delete

namespace State

/-- R85: an offer that finds 1,024 entries. -/
def overflow (i : Nat) (s : State) : State :=
  if s.dirtyAt i then s
  else ((s.mapMarks i (fun m => { m with dirty := true })).latch .queueOverflow).countOverflow

/-- R81: a new entry joins the tail, and covers the write a dirty mark remembered. -/
def appendEntry (k : QueueKind) (i : Nat) (s : State) : State :=
  (s.withEntries (s.dq.entries ++ [⟨i, k⟩])).mapMarks i (fun m => { m with queued := true, dirty := false })

/-- R80 to R83, R85: a kind offered for a slot. -/
def offer (k : QueueKind) (i : Nat) (s : State) : State :=
  if !s.offersTaken then s
  else match s.entryKind i with
    | some e => match mergeKind e k with
      | some merged => (s.setEntryKind i merged).countCoalesced
      | none => ((s.removeEntry i).mapMarks i (fun m => { m with queued := false })).countCoalesced
    | none => if s.occupancy < Config.deltaQueueLimit then s.appendEntry k i else s.overflow i

/-! ### Ending a session (R19, R55) -/

/-- R19, R55: a removal of a LIVE record. The version is bumped and the port released; with a relation UP the slot goes DOOMED
and a DELETE is offered, which may cancel a queued CREATE and leave the slot FREE; with none it goes FREE. The walker's expiry
clears refresh-owed first. -/
def endSession (i : Nat) (r : Record) (byWalker : Bool) (s : State) : State :=
  let v := (s.slot i).version + 1
  let t := s.releasePort r.nat
  let kept := if byWalker then { r with marks := { r.marks with owed := false } } else r
  if s.up then
    let cancels := t.offersTaken && decide (t.entryKind i = some .create)
    let u := (t.setSlot i ⟨v, .doomed kept⟩).offer .delete i
    if cancels then u.setSlot i ⟨v, .free⟩ else u
  else t.setSlot i ⟨v, .free⟩

/-! ### Refreshes (R18, R84, R56) -/

/-- R84: whether the queue stands below its watermark. -/
def belowWatermark (s : State) : Bool := decide (s.occupancy < Config.watermark)

/-- R56: the owed-refresh test of a walker's visit to a LIVE record. -/
def owedRefresh (i : Nat) (r : Record) (s : State) : State :=
  if r.marks.owed then
    if s.belowWatermark then (s.offer .refresh i).setOwed i false else s.countSuppressed
  else s

/-! ### Clearing the queue (R92, R93) -/

/-- R92: what a relation end does to a slot: marks cleared, DOOMED to FREE. -/
def slotAtRelationEnd (x : Slot) : Slot := match x.body with
  | .doomed _ => x.freed
  | _ => x.mapRecord (fun r => { r with marks := Marks.clear })

/-- R92: the queue at a relation end. The engine goes IDLE with its cursor where it stood (DESIGN CHOICE, assumption 37). -/
def clearQueue (s : State) : State :=
  (s.withTable (tableMap (fun _ x => slotAtRelationEnd x) s.table)).withDq { s.dq with entries := [], catchup := false }

/-- R93: what a stand-down does to a slot: a DOOMED one goes FREE if its DELETE is queued or dirty. -/
def slotAtStandDown (x : Slot) : Slot := match x.body with
  | .doomed r =>
    if r.marks.queued || r.marks.dirty then x.freed else x.mapRecord (fun r => { r with marks := Marks.clear })
  | _ => x.mapRecord (fun r => { r with marks := Marks.clear })

/-- R93: the queue at a stand-down, the catch-up cursor kept as at a relation end (assumption 37). -/
def clearQueueStandDown (s : State) : State :=
  (s.withTable (tableMap (fun _ x => slotAtStandDown x) s.table)).withDq { s.dq with entries := [], catchup := false }

/-! ### Applying deltas (R22, R23, R110, R111) -/

/-- R23: a LIVE record freed by supersession: FREE, version kept, marks and entry gone, port released. -/
def supersede (t : Nat) (s : State) : State := match (s.slot t).live? with
  | some r => ((s.releasePort r.nat).removeEntry t).setSlot t (s.slot t).freed
  | none => s

/-- R23: the first slot but `i` whose content `ok` admits, wherever it stands. -/
def otherSlot (i : Nat) (ok : Slot → Bool) (s : State) : Option Nat :=
  (s.table.find? (fun e => decide (e.1 ≠ i) && ok e.2)).map (·.1)

/-- R23, step 1: the LIVE record in another slot with the delta's normalised key, wherever it stands (DEDUCED, assumption 47). -/
def supersedeByKey (i : Nat) (k : Key) (s : State) : State :=
  match s.otherSlot i (fun x => x.holdsKey k.normalise) with
  | some t => s.supersede t
  | none => s

/-- R23, step 2: the LIVE record in another slot that names this port. -/
def holderOf (s : State) (i : Nat) (n : NatPart) : Option Nat :=
  s.otherSlot i (fun x => decide ((x.live?.bind (·.nat)) = some n))

/-- R23, step 2: it runs for a lane-region port only (R64). -/
def supersedeByPort (i : Nat) (n : Option NatPart) (s : State) : State := match n with
  | some n =>
    if s.pool.serves n then
      match s.holderOf i n with
      | some t => s.supersede t
      | none => s
    else s
  | none => s

/-- R22: the record a taken delta leaves in slot `i`. -/
def recordOf (s : State) (i : Nat) (d : FullDelta) : Record :=
  let k := d.key.normalise
  let deadline := s.now + d.remaining.zeroExtend 32
  { key := k
    home := homeOf i (k.bucket s.cfg.seed)
    cls := d.cls
    pinned := d.pinned
    deadline := deadline
    deadlineSent := deadline
    lastTouch := s.now
    rate := d.rate
    stamp := s.now
    baseEpoch := s.arb.epoch
    seenEpoch := s.arb.epoch
    seenOut := false
    seenIn := false
    source := .peer
    nat := d.nat
    tcp := d.tcp.map (·.stored)
    marks := Marks.clear }

/-- R22: the old port of a LIVE slot, released if the delta names a different one. -/
def releaseOldPort (i : Nat) (n : Option NatPart) (s : State) : State := match (s.slot i).live? with
  | some r => if r.nat = n then s else s.releasePort r.nat
  | none => s

/-- R22, R23, R69: a taken CREATE, FILL, CHANGE or REFRESH: supersession, then the binding, then the write. -/
def writeDelta (i : Nat) (d : FullDelta) (s : State) : State :=
  let t := (((s.supersedeByKey i d.key).supersedeByPort i d.nat).bindPort d.nat).releaseOldPort i d.nat
  (t.removeEntry i).setSlot i ⟨d.version, .live (t.recordOf i d)⟩

/-- R110: whether a CREATE, FILL, CHANGE or REFRESH is taken. -/
def takesFull (s : State) (d : FullDelta) : Bool :=
  decide (d.slot.toNat < Config.slotCount) && !(decide (d.kind = .fill) && s.onActiveSide) &&
    ((s.slot d.slot.toNat).isFree || later d.version (s.slot d.slot.toNat).version)

/-- R110: a received CREATE, FILL, CHANGE or REFRESH. -/
def applyFull (d : FullDelta) (s : State) : State := if s.takesFull d then s.writeDelta d.slot.toNat d else s

/-- R111: a received DELETE. -/
def applyDelete (slot : BitVec 16) (v : Word) (s : State) : State :=
  let i := slot.toNat
  if Config.slotCount ≤ i then s
  else match (s.slot i).live? with
    | some r =>
      if earlier v (s.slot i).version then s
      else ((s.releasePort r.nat).removeEntry i).setSlot i ⟨v, .free⟩
    | none => s

/-- R70, R135: what an applied SWEEP_BEGIN does to the table, the queue and the pool. -/
def freeWholeTable (s : State) : State :=
  ((s.withTable (tableMap (fun _ x => x.freed) s.table)).withEntries []).changePool Pool.allFree

end State

end Sys2Proof.Machine
end

