-- ==== Sys2Proof/Machine/Transmit.lean ====
section
/-! DEFINITION. The transmitter (R99), the BEAT (R101) and the sending of hello pages (R119, R120). A frame put to an idle
transmitter begins at the end of the step that put it, by the precedence of R99 (assumption 7). -/

namespace Sys2Proof.Machine

/-- R196: the letter byte of a unit. -/
def UnitLetter.byte : UnitLetter → Byte
  | .a => 0
  | .b => 1

namespace Transmitter

/-- R113: every waiting frame dropped; a frame whose transmission has begun is sent whole. -/
def dropWaiting (x : Transmitter) : Transmitter := { Transmitter.initial with sending := x.sending }

/-- R99: returned probes wait in probe-number order. -/
def insertProbe (p : Probe) : List Probe → List Probe
  | [] => [p]
  | q :: rest => if p.number.toNat < q.number.toNat then p :: q :: rest else q :: insertProbe p rest

end Transmitter

/-- R104: the DELTA frame in flight with this sequence number. -/
def inFlightFrame (l : List InFlight) (seq : Byte) : Option Frame :=
  (l.find? (fun f => decide (f.seq = seq))).map (fun f => .delta f.seq f.records)

/-- R99: the transmitter takes the next waiting frame by its precedence. HELLO pages, which R99 leaves out because they never
wait beside another kind, come first: only a page sent in HELLO can still wait when the link goes UP. -/
def takeNext (inFlight : List InFlight) (x : Transmitter) : Transmitter :=
  match x.hello with
  | p :: rest => { x with sending := some (.hello p), hello := rest }
  | [] => match x.acks with
    | n :: rest => { x with sending := some (.ack n), acks := rest }
    | [] => match x.beat with
      | some b => { x with sending := some (.beat b), beat := none }
      | none => match x.resend with
        | q :: rest => { x with sending := inFlightFrame inFlight q, resend := rest }
        | [] => match x.fresh with
          | q :: rest => { x with sending := inFlightFrame inFlight q, fresh := rest }
          | [] => match x.returned with
            | p :: rest => { x with sending := some (.probe p), returned := rest }
            | [] => match x.outbound with
              | p :: rest => { x with sending := some (.probe p), outbound := rest }
              | [] => x

namespace State

/-- Writes the transmitter. -/
def withTx (x : Transmitter) (s : State) : State := s.withPort { s.port with tx := x }

/-- An idle transmitter takes the next waiting frame. -/
def kick (s : State) : State :=
  if s.port.tx.sending = none then s.withTx (takeNext s.port.inFlight s.port.tx) else s

/-! ### BEAT -/

/-- R101: the lagging flag. -/
def lagging (s : State) : Bool := decide (0 < s.dirtyCount)

/-- R101: a BEAT with the values as they stand. -/
def buildBeat (s : State) : Beat where
  role := s.role
  health := BitVec.ofNat 3 s.arb.health
  priority := BitVec.ofNat 4 s.cfg.priority
  letter := decide (s.letter = .b)
  lagging := s.lagging
  hold := s.arb.hold
  sweep := s.sweep.state
  live := BitVec.ofNat 16 s.liveCount

/-- R101: a BEAT is put to the transmitter, replacing one that waits, and the heartbeat timer restarts. -/
def putBeat (s : State) : State :=
  s.withPort { s.port with heartbeat := some 0, tx := { s.port.tx with beat := some s.buildBeat } }

/-! ### Hello pages -/

/-- R124: this unit's page 1. -/
def identity (s : State) : Identity where
  letter := s.letter.byte
  priority := BitVec.ofNat 8 s.cfg.priority
  health := BitVec.ofNat 8 s.arb.health
  role := s.role
  live := BitVec.ofNat 16 s.liveCount

/-- R196: an address position at or above the address count is sent as 0. -/
def sentAddress (s : State) (i : Fin 4) : Word := if i.val < s.cfg.addrCount then s.cfg.addrs[i] else 0

/-- R124: the contents of a page, read when it is built. -/
def pageContent (s : State) : Nat → PageContent
  | 2 => .geometry (BitVec.ofNat 16 Config.slotCount) (BitVec.ofNat 16 Config.bucketCount) s.cfg.seed
  | 3 => .nat (BitVec.ofNat 8 s.cfg.addrCount) (BitVec.ofNat 8 s.cfg.staticBlocks) (s.sentAddress 0) (s.sentAddress 1)
      (s.sentAddress 2) (s.sentAddress 3)
  | 4 => .timers (BitVec.ofNat 16 s.cfg.tickInterval)
  | _ => .identity s.identity

/-- R120: the current page. -/
def currentPage (s : State) (more : Bool) : HelloPage where
  toggle := s.hello.toggle
  ackToggle := s.hello.ackToggle
  comply := s.hello.comply
  more := more
  exchange := s.hello.exchange
  ackExchange := s.hello.ackExchange
  content := s.pageContent s.hello.ownPage

/-- R120: the current page is sent and the pacing timer restarts. A page 1 is remembered (R128). A page that still waits for the
transmitter stays in line before it, one of an exchange that restarts in HELLO (R119) too (DESIGN CHOICE, assumption 50). -/
def sendPage (more : Bool) (s : State) : State :=
  (s.withTx { s.port.tx with hello := s.port.tx.hello ++ [s.currentPage more] }).withHello
    { s.hello with
      pacingSince := s.clock
      sentIdentity := if s.hello.ownPage = 1 then some s.identity else s.hello.sentIdentity }

/-- R119: the exchange begins, or restarts, at page 1, which is sent at once. -/
def helloBegin (s : State) : State :=
  (s.withHello { s.hello with
    ownPage := 1
    toggle := false
    taken := 0
    ackToggle := true
    exchange := s.hello.exchange + 1
    comply := true
    peerIdentity := none
    helloSince := s.clock }).sendPage true

/-- R119: in BOOT the exchange is held. -/
def exchangeRuns (s : State) : Bool := decide (s.port.link = .hello) && decide (s.role ≠ .boot)

/-- R123: a change of role, health or priority while the link state is HELLO restarts the exchange. -/
def helloRestart (s : State) : State := if s.exchangeRuns then s.helloBegin else s

end State

end Sys2Proof.Machine
end

