-- ==== Sys2Proof/Machine/Arbitration.lean ====
section
/-! DEFINITION. The Role Arbiter's decisions (chapter 9) and the start and abort of a sweep (R130, R136). -/

namespace Sys2Proof.Machine

/-- R151: whether the first unit stands higher than the second: health, then priority, then unit letter with A above B. Where
the letters are not one A and one B the manual gives no order, and the answer is a free value (assumption 10). -/
def standsHigher (health priority : Nat) (letter : Byte) (health' priority' : Nat) (letter' : Byte) : Bool :=
  if health ≠ health' then decide (health' < health)
  else if priority ≠ priority' then decide (priority' < priority)
  else if letter = 0 ∧ letter' = 1 then true
  else if letter = 1 ∧ letter' = 0 then false
  else Config.letterTie letter letter'

namespace State

/-- R151: whether this unit stands higher than the peer of the peer view. -/
def higherThanPeer (s : State) : Bool :=
  standsHigher s.arb.health s.cfg.priority s.letter.byte s.arb.peer.health s.arb.peer.priority s.arb.peer.letter

/-! ### Roles -/

/-- R149: a role change, taken whole: ROLE_CHANGED, the line pattern, a BEAT while the link state is UP, and the hello restart while
it is HELLO. The yield timer and an unplaced YIELD marker end with YIELDING (R104, R165). -/
def setRole (r : Role) (s : State) : State :=
  if s.role = r then s
  else
    let t := (s.withArb { s.arb with role := r, yieldTimer := none, yieldHanded := false }).latch .roleChanged
    let u := (t.withPort { t.port with yieldMarker := false }).withDriver (t.driver.setPattern t.clock r.pattern)
    if u.up then u.putBeat else u.helloRestart

/-- R156, R157: whether a takeover entry latches PARTIAL_TAKEOVER. -/
def partialTakeover (s : State) : Bool :=
  decide (s.role = .joining) || decide (s.role = .isolated) || s.arb.peer.lagging

/-- R157: takeover entry. `byMarker` says that a YIELD marker made it. -/
def takeoverEntry (byMarker : Bool) (s : State) : State :=
  let t := s.withArb { s.arb with
    epoch := s.arb.epoch + 1
    takeoverTick := s.now
    grace := s.cfg.grace
    yieldTaken := byMarker
    listen := none
    healthHold := none }
  let u := (t.setLaneMode .own).setRole .takeover
  if s.partialTakeover then u.latch .partialTakeover else u

/-! ### The sweep -/

/-- R134: no frame in flight ends the running sweep any more. -/
def forgetSweepEnds (s : State) : State :=
  s.withPort { s.port with inFlight := s.port.inFlight.map (fun f => { f with endsSweep := false }) }

/-- R130: a sweep starts, or starts again. -/
def startSweep (s : State) : State :=
  let t := (s.withSweep { s.sweep with state := .sweeping, cursor := 0 }).forgetSweepEnds
  (t.withPort { t.port with sweepBegin := true, sweepEnd := false }).setLaneMode .own

/-- R136: a running sweep is aborted; the cursor keeps its value. -/
def abortSweep (s : State) : State :=
  if s.sweep.state = .idle then s
  else
    let t := (s.withSweep { s.sweep with state := .idle }).forgetSweepEnds
    t.withPort { t.port with sweepBegin := false, sweepEnd := false }

/-- R93, R160: a stand-down within a relation. -/
def standDown (s : State) : State :=
  let t := ((s.setRole .joining).clearQueueStandDown).abortSweep
  t.withArb { t.arb with healthHold := none }

/-! ### Listen and peer loss -/

/-- Stops the listen timer. -/
def stopListen (s : State) : State := s.withArb { s.arb with listen := none }

/-- R155: stops a running STAGGER timer. -/
def stopStagger (s : State) : State := match s.arb.listen with
  | some (.stagger, _) => s.stopListen
  | _ => s

/-- R154: the decision at the end of a first listen period. -/
def listenDecision (s : State) : State :=
  if s.monitor.cls = .active then s.stopListen.setRole .isolated
  else if s.arb.hold then s.stopListen
  else match s.letter with
    | .a => s.stopListen.setRole .active
    | .b => s.withArb { s.arb with listen := some (.second, 0) }

/-- R154: the decision at the end of unit B's second listen period. A line class of ACTIVE with the hold flag set gives ISOLATED
(DEDUCED, assumption 45): two sentences of R154 then apply, and the table of the first period puts the class before the flag. -/
def secondListenDecision (s : State) : State :=
  if s.monitor.cls = .active then s.stopListen.setRole .isolated
  else if s.arb.hold then s.stopListen
  else s.stopListen.setRole .active

/-- R155: the stagger of unit B. -/
def stagger (s : State) : State := match s.arb.listen with
  | some (.stagger, _) => s
  | _ => s.withArb { s.arb with listen := some (.stagger, 0) }

/-- R155: the peer-loss decision; `staggered` says that it is made at the end of the STAGGER timer. -/
def peerLoss (staggered : Bool) (s : State) : State :=
  match s.monitor.cls with
  | .active => s.stopStagger.setRole .isolated
  | .silent => if s.arb.hold then s.stopStagger else s.takeoverEntry false
  | _ =>
    if s.arb.hold then s.stopStagger
    else if staggered || decide (s.letter = .a) then s.takeoverEntry false
    else s.stagger

/-- R162: the line rule, made by a unit in ACTIVE or TAKEOVER without a relation. -/
def lineRule (s : State) : State :=
  if s.monitor.cls = .active ∧ s.letter = .b then (s.setRole .isolated).latch .splitResolved else s

/-- R155, R162, R165: the arbiter is told that the relation has ended, or that the link has been refused. -/
def relationLost (s : State) : State := match s.role with
  | .yielding => (s.setRole .active).lineRule
  | .active | .takeover => s.lineRule
  | .standby | .joining | .isolated => s.peerLoss false
  | .boot | .listen => s

/-- R145: the arbiter is handed a new line class. While a relation is UP the class alone moves no role (R150). -/
def lineClassChanged (s : State) : State :=
  if s.up then s
  else match s.role with
    | .active | .takeover => s.lineRule
    | .standby | .joining | .isolated => s.peerLoss false
    | .boot | .listen | .yielding => s

/-! ### Yield -/

/-- R163: whether a yield may begin. -/
def mayYield (s : State) : Bool :=
  decide (s.role = .active) && s.up && decide (s.arb.peer.role = some .standby) && !s.arb.peer.lagging &&
    !s.arb.peer.hold && decide (s.sweep.state = .idle) && decide (s.dirtyCount = 0)

/-- R163: a yield begins. -/
def beginYield (s : State) : State :=
  let t := s.setRole .yielding
  t.withArb { t.arb with yieldTimer := some 0, healthHold := none }

/-- R163: with the occupancy at 0 the YIELD marker is handed to the frame builder, once per yield. -/
def handYield (s : State) : State :=
  if s.role = .yielding ∧ s.dq.entries = [] ∧ s.arb.yieldHanded = false then
    (s.withArb { s.arb with yieldHanded := true }).withPort { s.port with yieldMarker := true }
  else s

/-- R166: whether the peer is preferred. -/
def peerPreferred (s : State) : Bool :=
  decide (s.arb.health < s.arb.peer.health) ||
    (s.cfg.preempt && decide (s.arb.peer.health = s.arb.health) && decide (s.cfg.priority < s.arb.peer.priority))

/-- R166: when the health-hold timer runs. -/
def healthHoldRuns (s : State) : Bool := decide (s.role = .active) && s.up && s.peerPreferred

end State

end Sys2Proof.Machine
end

