-- ==== Sys2Proof/Machine/Relation.lean ====
section
/-! DEFINITION. Relation end (R113, R114), relation start (R100, R128, R129), refusal (R126), and the taking of a hello page
(R121, R122, R124). -/

namespace Sys2Proof.Machine

/-- R193: the kind LOOP_TEST echoes. -/
def loopTestKind : BitVec 6 := 8

namespace State

/-- R115, R116: a loop test completes: status OK, the count sent (64 for INTERNAL) and the count returned. What it still had
waiting for the transmitter is not sent (assumption 9). -/
def completeLoopTest (s : State) : State := match s.req.running with
  | none => s
  | some t =>
    let u := s.withReq { s.req with running := none }
    let v := u.withTx { u.port.tx with outbound := [] }
    v.post loopTestKind t.tag .ok
      [BitVec.ofNat 32 (if t.far then t.sent else Config.probeCount), BitVec.ofNat 32 t.counted.length]

/-- R116: a running FAR test completes when the relation ends. -/
def completeFarTest (s : State) : State :=
  if (s.req.running.map (·.far)).getD false then s.completeLoopTest else s

/-- R96: HELLO if carrier is present, DOWN if not. -/
def linkByCarrier (s : State) : LinkState := if s.port.carrier then .hello else .down

/-- R113: what a relation end does at the port. Records of a DELTA frame in progress that are not applied yet are dropped, and the frame
is not acknowledged (DESIGN CHOICE, assumption 48). -/
def portAtEnd (reason : EndReason) (s : State) : State :=
  s.withPort { s.port with
    inFlight := []
    applying := []
    tx := s.port.tx.dropWaiting
    heartbeat := none
    silence := none
    lastEnd := reason
    sweepBegin := false
    sweepEnd := false
    yieldMarker := false
    link := s.linkByCarrier }

/-- R113, R114: a relation ends. In BOOT, where only SOFT_RESET ends one, the exchange is held and the arbiter decides
nothing (R188). -/
def endRelation (reason : EndReason) (s : State) : State :=
  let t := ((s.completeFarTest.portAtEnd reason).latch .relationEnded).countEnded
  (t.clearQueue.abortSweep.helloRestart).relationLost

/-! ### Relation start -/

/-- R150: the peer fields from the peer page 1 record. -/
def PeerView.ofIdentity (p : Identity) : PeerView where
  role := some p.role
  health := p.health.toNat
  priority := p.priority.toNat
  letter := p.letter
  live := p.live.toNat
  sweep := .idle
  lagging := false
  hold := false

/-- R128: the role carried by a page 1 is on the active side. -/
def activeSideRole : Role → Bool
  | .active | .takeover | .yielding => true
  | _ => false

/-- R128: whether the first page 1 stands higher than the second (R151). -/
def identityHigher (own peer : Identity) : Bool :=
  standsHigher own.health.toNat own.priority.toNat own.letter peer.health.toNat peer.priority.toNat peer.letter

/-- R128: whether the unit of the first page 1 wins when neither is on the active side. -/
def winsStart (own peer : Identity) : Bool :=
  if own.live = peer.live then identityHigher own peer else decide (peer.live.toNat < own.live.toNat)

/-- R128, R129: the roles of the new relation, from the last page 1 sent and the peer page 1 record. -/
def settleRoles (own peer : Identity) (s : State) : State :=
  match activeSideRole own.role, activeSideRole peer.role with
  | true, false => s.startSweep
  | false, true => s.setRole .joining
  | false, false => if winsStart own peer then (s.takeoverEntry false).startSweep else s.setRole .joining
  | true, true =>
    let t := s.latch .splitResolved
    if identityHigher own peer then t.startSweep else t.standDown

/-- R100, R153: the port enters UP and the arbiter takes the new relation. R146: LINE_FAULT on a silent or garbled class. -/
def relationStart (s : State) : State :=
  let own := s.hello.sentIdentity.getD s.identity
  let peer := s.hello.peerIdentity.getD ⟨0, 0, 0, .boot, 0⟩
  let t := s.withPort { s.port with link := .up, nextSeq := 0, inFlight := [], expected := 0, silence := some 0 }
  let u := (t.withArb { t.arb with
    listen := none
    healthHold := none
    yieldTimer := none
    yieldTaken := false
    peer := PeerView.ofIdentity peer }).latch .relationUp
  let v := if u.monitor.cls = .silent ∨ u.monitor.cls = .garbled then u.latch .lineFault else u
  v.putBeat.settleRoles own peer

/-! ### Refusal -/

/-- R126: entry to REFUSED. What waits is dropped, and nothing more is sent but what `last` puts to the transmitter (DEDUCED,
assumption 33). -/
def enterRefused (reason : RefusalReason) (last : State → State) (s : State) : State :=
  let t := last (s.withTx s.port.tx.dropWaiting)
  let u := (t.withHello { t.hello with refusal := some reason }).latch .incompatible
  (u.withPort { u.port with link := .refused }).relationLost

/-- R126, LOCAL: the current page once more, with the incompatible page's toggle and comply 0. -/
def refuseLocal (p : HelloPage) (s : State) : State :=
  s.enterRefused ⟨p.content.number, false⟩
    (fun t => (t.withHello { t.hello with ackToggle := p.toggle, comply := false }).sendPage true)

/-- R126, PEER. -/
def refusePeer (s : State) : State := s.enterRefused ⟨s.hello.ownPage, true⟩ id

/-! ### Taking a page -/

/-- R124: whether a peer's page is compatible with this side's own. -/
def compatible (s : State) : PageContent → Bool
  | .identity p => decide (p.letter ≠ s.letter.byte)
  | .geometry slots buckets seed => decide (PageContent.geometry slots buckets seed = s.pageContent 2)
  | .nat count blocks a0 a1 a2 a3 =>
    decide (count.toNat = s.cfg.addrCount) && decide (blocks.toNat = s.cfg.staticBlocks) &&
      (List.finRange 4).all (fun i => decide (s.cfg.addrCount ≤ i.val) || decide ([a0, a1, a2, a3].getD i.val 0 = s.cfg.addrs[i]))
  | .timers interval => decide (interval.toNat = s.cfg.tickInterval)

/-- R122: the side moves on from its own page, or completes on page 4. -/
def moveOn (p : HelloPage) (s : State) : State :=
  if s.hello.ownPage < 4 then
    (s.withHello { s.hello with
      ownPage := s.hello.ownPage + 1
      toggle := !s.hello.toggle
      helloSince := s.clock }).sendPage true
  else (if p.more then s.sendPage false else s).relationStart

/-- R121, R122: the page's acknowledgment is compared, and the side moves on if its page is acknowledged and it has taken the
peer's page of that number. -/
def acknowledge (p : HelloPage) (s : State) : State :=
  if p.ackToggle = s.hello.toggle ∧ p.ackExchange = s.hello.exchange ∧ s.hello.ownPage ≤ s.hello.taken then s.moveOn p else s

/-- The identity of a page 1. -/
def pageIdentity : PageContent → Option Identity
  | .identity p => some p
  | _ => none

/-- R121, case 3: a new compatible page is taken. -/
def takeNew (p : HelloPage) (s : State) : State :=
  s.withHello { s.hello with
    taken := p.content.number
    ackToggle := p.toggle
    ackExchange := p.exchange
    comply := true
    helloSince := s.clock
    peerIdentity := (pageIdentity p.content).or s.hello.peerIdentity }

/-- R121, case 4: a repeat; a repeat of page 1 refreshes the record and the acknowledgment. -/
def takeRepeat (p : HelloPage) (s : State) : State := match p.content with
  | .identity i => s.withHello { s.hello with peerIdentity := some i, ackToggle := p.toggle, ackExchange := p.exchange }
  | _ => s

/-- R121, cases 3 to 5. -/
def takeInStep (p : HelloPage) (s : State) : State :=
  if p.content.number = s.hello.taken + 1 then
    if s.compatible p.content then (s.takeNew p).acknowledge p else s.refuseLocal p
  else if p.content.number = s.hello.taken then (s.takeRepeat p).acknowledge p
  else s

/-- R121: a page taken whole by a side in HELLO. -/
def takePage (p : HelloPage) (s : State) : State :=
  if !p.comply then s.refusePeer
  else if p.content.number < s.hello.taken then s.helloBegin.takeInStep p
  else s.takeInStep p

/-- R103: a frame from the peer restarts the silence timer. -/
def heard (s : State) : State := s.withPort { s.port with silence := s.port.silence.map (fun _ => 0) }

/-- R97, R121, R125: a HELLO page arrives. In HELLO it is taken, unless the exchange is held; in UP a page 1 ends the relation
and is the first page of the new exchange, and any other page only restarts the silence timer; elsewhere it is discarded. -/
def receiveHello (p : HelloPage) (s : State) : State := match s.port.link with
  | .hello => if s.role = .boot then s else s.takePage p
  | .up =>
    if p.content.number = 1 then
      let t := s.heard.endRelation .helloSeen
      if t.exchangeRuns then t.takePage p else t
    else s.heard
  | _ => s

end State

end Sys2Proof.Machine
end

