-- ==== Sys2Proof/Machine/Settle.lean ====
section
/-! DEFINITION. What follows from a step, in the same step: conditions the manual says a block "sees at once". The catch-up
engine starts (R87), a YIELD marker is handed over (R163), the health-hold timer starts or stops (R166), a BEAT is put for a
change the peer must hear of (R101), and an idle transmitter takes a waiting frame (R99). -/

namespace Sys2Proof.Machine

namespace State

/-- R87: an IDLE engine starts a pass when slots are dirty, the occupancy is below 256, and a relation is UP on a forwarding
unit. -/
def startCatchup (s : State) : State :=
  if s.dq.catchup = false ∧ 0 < s.dirtyCount ∧ s.occupancy < Config.catchupBelow ∧ s.offersTaken = true then
    s.withDq { s.dq with catchup := true, catchupCursor := 0 }
  else s

/-- R166: the health-hold timer starts at 0 when its three conditions hold, and stops when one ceases to hold. They are read in the step
that changes them, priority, preempt and health too, which R170 and R185 have read at a tick (DESIGN CHOICE, assumption 53). -/
def settleHealthHold (s : State) : State :=
  s.withArb { s.arb with healthHold := if s.healthHoldRuns then some (s.arb.healthHold.getD 0) else none }

/-- R101: what a BEAT is put for when it changes. -/
def beatCauses (s : State) : Role × Nat × Bool × SweepState × Bool :=
  (s.role, s.arb.health, s.arb.hold, s.sweep.state, s.lagging)

/-- R101: a BEAT is put while UP when one of its causes has changed since `before`. -/
def beatOnChange (before s : State) : State :=
  if s.up = true ∧ before.beatCauses ≠ s.beatCauses then s.putBeat else s

/-- What a change from `before` to `s` brings with it at once, but for the transmitter: the catch-up engine (R87), the YIELD
marker (R163), the health-hold timer (R166) and the BEAT (R101). -/
def followUp (before s : State) : State := beatOnChange before s.startCatchup.handYield.settleHealthHold

/-- Everything that follows from a step at once: an idle transmitter takes a waiting frame last (R99, assumption 7). -/
def settle (before s : State) : State := (followUp before s).kick

end State

/-- The outcome of an event whose condition is `happens`: the part changes by `f`, and what follows at once is taken. An event
whose condition does not hold has not occurred and changes nothing (assumption 6). -/
def event (s : State) (happens : State → Bool) (f : State → State) : Result :=
  .next (whenRunning s (fun s => if happens s then State.settle s (f s) else s))

/-- As `event`, for an event from which nothing follows. -/
def quietEvent (s : State) (happens : State → Bool) (f : State → State) : Result :=
  .next (whenRunning s (fun s => if happens s then f s else s))

/-- As `event`, for an event of parts, each of which takes what follows from it: an idle transmitter takes a frame at the end. -/
def stagedEvent (s : State) (happens : State → Bool) (f : State → State) : Result :=
  .next (whenRunning s (fun s => if happens s then (f s).kick else s))

/-- As `event`, for an event at `phase` periods of the millisecond in progress (assumption 3): condition and effect are read
with the reference clock there. -/
def timedEvent (s : State) (phase : Nat) (happens : State → Bool) (f : State → State) : Result :=
  .next (whenRunning s (fun s => if happens (s.atPhase phase) then State.settle s (f (s.atPhase phase)) else s))

end Sys2Proof.Machine
end

