-- ==== Sys2Proof/Machine/LineEvents.lean ====
section
/-! DEFINITION. The role-line family: the monitor's edges, samples and timers (R141 to R146) and the driver's bit time
(R138, R140). -/

namespace Sys2Proof.Machine

namespace State

/-- R145, R146: a monitor step whose class may have changed. LINE_FAULT is latched for a change to SILENT or GARBLED while UP, and
a change is handed to the Role Arbiter. -/
def withReading (m : Monitor) (s : State) : State :=
  let t := s.withMonitor m
  if m.cls = s.monitor.cls then t
  else
    let u := if s.up ∧ (m.cls = .silent ∨ m.cls = .garbled) then t.latch .lineFault else t
    u.lineClassChanged

/-- R142: the verdict on a repetition, an unmatched one being counted in LINE_GARBLED, and the monitor as `after` leaves it. -/
def judgeRepetition (verdict : Option LinePattern) (after : Monitor → Monitor) (s : State) : State :=
  let t := if verdict = none then s.countGarbled else s
  t.withReading (after (s.monitor.recorded verdict))

/-- R141, R142: an alignment edge now. -/
def alignmentEdge (s : State) : State := match s.monitor.alignment with
  | .aligned t0 =>
    s.judgeRepetition (matchedPattern s.monitor.samples (s.clock - t0)) (fun m => (m.align s.clock).rose s.clock)
  | .unaligned _ => s.withReading ((s.monitor.align s.clock).rose s.clock)

end State

/-- LINE_REPETITION_JUDGED (R141, R142): an alignment edge. -/
def execLineRepetitionJudged (phase lowRun : Nat) (s : State) : Result :=
  timedEvent s phase (fun _ => isAlignmentEdge lowRun) (fun s => s.alignmentEdge)

/-- LINE_RISING_EDGE (R142, R144): any other rising edge. -/
def execLineRisingEdge (phase lowRun : Nat) (s : State) : Result :=
  timedEvent s phase (fun _ => !isAlignmentEdge lowRun) (fun s => s.withReading ((s.monitor.rose s.clock).edgeInPeriod))

/-- R142: 50 ms have passed since t0. -/
def State.closureDue (s : State) : Bool := match s.monitor.alignment with
  | .aligned t0 => s.elapsedMs t0 50
  | .unaligned _ => false

/-- REPETITION_CLOSURE_TIMEOUT (R142). -/
def execRepetitionClosureTimeout (phase : Nat) (s : State) : Result :=
  timedEvent s phase (fun s => s.closureDue) (fun s => s.judgeRepetition none (·.unalign s.clock))

/-- R142: 48 ms of an unaligned period have passed. -/
def State.periodOver (s : State) : Bool := match s.monitor.alignment with
  | .unaligned t => s.elapsedMs t 48
  | .aligned _ => false

/-- UNALIGNED_PERIOD_END (R142). -/
def execUnalignedPeriodEnd (phase : Nat) (s : State) : Result :=
  timedEvent s phase (fun s => s.periodOver) (fun s =>
    if s.monitor.edgeSeen then s.judgeRepetition none (·.unalign s.clock) else s.withReading (s.monitor.unalign s.clock))

/-- R144: the silence timer stands at 120 ms. -/
def State.silenceOver (s : State) : Bool := match s.monitor.lastRise with
  | some t => s.elapsedMs t 120
  | none => false

/-- LINE_SILENCE_TIMEOUT (R144). -/
def execLineSilenceTimeout (phase : Nat) (s : State) : Result :=
  timedEvent s phase (fun s => s.silenceOver) (fun s => s.withReading (s.monitor.silenced s.clock))

/-- MID_BIT_SAMPLE (R141). -/
def execMidBitSample (phase : Nat) (level : Bool) (s : State) : Result :=
  timedEvent s phase (fun s => s.monitor.sampleDue s.clock) (fun s => s.withMonitor (s.monitor.sampled s.clock level))

/-- R138, R140: the driver's bit time ends now, or the low run before a pending pattern reaches 16 ms. -/
def State.bitOver (s : State) : Bool := decide (s.driver.bitEnd s.clock ≠ s.driver)

/-- DRIVER_BIT_TIME (R138, R140). -/
def execDriverBitTime (phase : Nat) (s : State) : Result :=
  timedEvent s phase (fun s => s.bitOver) (fun s => s.withDriver (s.driver.bitEnd s.clock))

end Sys2Proof.Machine
end

