-- ==== Sys2Proof/Machine/FrameBuilder.lean ====
section
/-! DEFINITION. The frame builder (R90, R104), the sweep's cursor rule and scan (R131 to R133), and the retirement of frames
(R106). -/

namespace Sys2Proof.Machine

/-- R59: the remaining ticks a delta carries: a negative value is sent as 0. A difference beyond the field's 65,535, which a pinned
record shows more than 2^31 ticks after its deadline, is a free value (DESIGN CHOICE, assumption 43). -/
def remainingTicks (deadline now : Word) : BitVec 16 :=
  let d := signedDiff deadline now
  if 65535 < d then Config.remainingBeyond deadline now else BitVec.ofNat 16 d.toNat

/-- R90, R132: a full record built from a LIVE slot as it stands. -/
def fullDelta (kind : FullKind) (i : Nat) (x : Slot) (r : Record) (now : Word) : FullDelta where
  kind := kind
  slot := BitVec.ofNat 16 i
  version := x.version
  key := r.key
  cls := r.cls
  pinned := r.pinned
  remaining := remainingTicks r.deadline now
  rate := r.rate
  nat := r.nat
  tcp := r.tcp

/-- R59: what building a full record changes in the sender's record. -/
def Record.built (r : Record) : Record := { r with deadlineSent := r.deadline, marks := { r.marks with owed := false } }

/-- R90: the full kind of a queue kind. -/
def QueueKind.full? : QueueKind → Option FullKind
  | .create => some .create
  | .change => some .change
  | .refresh => some .refresh
  | .delete => none

namespace State

/-- R131: whether the cursor rule drops an entry for this slot. -/
def cursorDrops (s : State) (i : Nat) : Bool := decide (s.sweep.state = .sweeping) && decide (s.sweep.cursor ≤ i)

/-- R90: the head entry leaves the list, its slot's queued mark cleared. -/
def dequeue (i : Nat) (s : State) : State :=
  (s.withEntries s.dq.entries.tail).mapMarks i (fun m => { m with queued := false })

/-- R131: an entry ahead of the sweep cursor is dropped; a DOOMED slot goes FREE at once. -/
def dropEntry (i : Nat) (s : State) : State :=
  let t := s.dequeue i
  match (t.slot i).doomed? with
  | some _ => t.setSlot i (t.slot i).freed
  | none => t

/-- R90, R131: the head entry taken, and the record it puts into the frame. -/
def takeEntry (e : Entry) (s : State) : State × List Delta :=
  if s.cursorDrops e.slot then (s.dropEntry e.slot, [])
  else
    let t := s.dequeue e.slot
    let x := t.slot e.slot
    match e.kind.full? with
    | some kind => match x.live? with
      | some r => (t.mapSlotRecord e.slot Record.built, [.full (fullDelta kind e.slot x r s.now)])
      | none => (t, [])
    | none => match x.doomed? with
      | some r => (t, [.delete (BitVec.ofNat 16 e.slot) x.version r.key])
      | none => (t, [])

/-- R104: entries are taken in list order while the frame has room. R87 is seen after each: an entry taken or dropped may leave an
IDLE engine its three conditions, and a scan of the same build may then clear the marks. -/
def takeEntries (room : Nat) : List Entry → State → List Delta → State × List Delta
  | [], s, ds => (s, ds)
  | e :: es, s, ds =>
    if room ≤ ds.length then (s, ds)
    else
      let p := s.takeEntry e
      takeEntries room es p.1.startCatchup (ds ++ p.2)

/-- R132: the slot at the cursor is scanned. -/
def scanSlot (s : State) : State × List Delta :=
  let i := s.sweep.cursor
  let x := s.slot i
  let t := s.withSweep { s.sweep with cursor := i + 1, scanCount := s.sweep.scanCount + 1 }
  match x.body with
  | .live r =>
    let u := (t.mapSlotRecord i Record.built).mapMarks i (fun m => { m with dirty := false })
    let v := if u.entryKind i = some .create then u.setEntryKind i .change else u
    (v, [.full (fullDelta .fill i x r s.now)])
  | .doomed r => if r.marks.dirty then (t.setSlot i x.freed, []) else (t, [])
  | .free => (t, [])

/-- R132: the scan stops at 20 records, at 256 slots, or at the end of the table. -/
def scan : Nat → State → List Delta → State × List Delta
  | 0, s, ds => (s, ds)
  | fuel + 1, s, ds =>
    if Config.frameRecords ≤ ds.length ∨ Config.slotCount ≤ s.sweep.cursor then (s, ds)
    else
      let p := s.scanSlot
      scan fuel p.1 (ds ++ p.2)

/-- R104: whether anything waits for a frame. -/
def frameWork (s : State) : Bool :=
  !s.dq.entries.isEmpty || decide (s.sweep.state = .sweeping ∧ s.sweep.cursor < Config.slotCount) ||
    s.port.sweepBegin || s.port.sweepEnd || s.port.yieldMarker

/-- R104: whether the builder builds. -/
def mayBuild (s : State) : Bool := s.up && decide (s.port.inFlight.length < Config.inFlightLimit) && s.frameWork

/-- R104, item 1. -/
def placeSweepBegin (s : State) : State × List Delta :=
  if s.port.sweepBegin then (s.withPort { s.port with sweepBegin := false }, [.sweepBegin]) else (s, [])

/-- R104, item 2: the places entries may take. A SWEEP_END or YIELD handed over before the build keeps one (assumption 8). -/
def entryRoom (s : State) : Nat := Config.frameRecords - (if s.port.sweepEnd || s.port.yieldMarker then 1 else 0)

/-- R104, item 3. -/
def placeFills (s : State) (ds : List Delta) : State × List Delta :=
  let t := s.withSweep { s.sweep with scanCount := 0 }
  if s.sweep.state = .sweeping then t.scan Config.scanLimit ds else (t, ds)

/-- R133: with the cursor at 16,896 the SWEEP_END is appended, or handed over for the next frame. -/
def placeSweepEnd (s : State) (ds : List Delta) : State × List Delta :=
  if s.sweep.state = .sweeping ∧ Config.slotCount ≤ s.sweep.cursor then
    if ds.length < Config.frameRecords then
      ((s.withSweep { s.sweep with state := .draining }).withPort { s.port with sweepEnd := false }, ds ++ [.sweepEnd])
    else (s.withPort { s.port with sweepEnd := true }, ds)
  else (s, ds)

/-- R104, item 4, and R163: the YIELD marker, handed over when the last entry is taken. -/
def placeYield (s : State) (ds : List Delta) : State × List Delta :=
  let t := s.handYield
  if t.port.yieldMarker ∧ ds.length < Config.frameRecords then
    (t.withPort { t.port with yieldMarker := false }, ds ++ [.yieldMarker])
  else (t, ds)

/-- R104: the records of the next frame, and the state as their building leaves it. -/
def gatherRecords (s : State) : State × List Delta :=
  let p := s.placeSweepBegin
  let q := takeEntries s.entryRoom p.1.dq.entries p.1 p.2
  let u := q.1.placeFills q.2
  let v := u.1.placeSweepEnd u.2
  v.1.placeYield v.2

/-- R104: a frame with these records takes the next sequence number, joins the in-flight list and waits for the
transmitter. -/
def launch (ds : List Delta) (endsSweep : Bool) (s : State) : State :=
  let f : InFlight := ⟨s.port.nextSeq, ds, 1, none, endsSweep⟩
  s.withPort { s.port with
    nextSeq := s.port.nextSeq + 1
    inFlight := s.port.inFlight ++ [f]
    tx := { s.port.tx with fresh := s.port.tx.fresh ++ [f.seq] } }

/-- R104: one attempt of the frame builder. A frame left with no record is not built; the dropped entries and the cursor's
advance stand. -/
def buildFrame (s : State) : State :=
  if s.mayBuild then
    let p := s.gatherRecords
    if p.2 = [] then p.1 else p.1.launch p.2 (decide (Delta.sweepEnd ∈ p.2))
  else s

/-! ### Acknowledgment (R105, R106) -/

/-- R106: the effect of retiring one record. An entry that stands for a slot freed so goes with it (DEDUCED, assumption 46): a FREE
slot has no marks, and a slot has an entry exactly when its queued mark is set (R78). -/
def retireRecord (d : Delta) (s : State) : State := match d with
  | .delete slot v _ =>
    let i := slot.toNat
    match (s.slot i).doomed? with
    | some _ => if (s.slot i).version = v then (s.removeEntry i).setSlot i (s.slot i).freed else s
    | none => s
  | _ => s

/-- R134: the sweep completes. -/
def completeSweep (s : State) : State := (s.withSweep { s.sweep with state := .idle }).latch .syncComplete

/-- R106: a frame is retired: its records in frame order, then the sweep it ends. A frame waiting to be sent again is not
sent (R105). R87 is seen after each record: an entry may go with it. -/
def retireFrame (f : InFlight) (s : State) : State :=
  let t := f.records.foldl (fun s d => (s.retireRecord d).startCatchup) s
  let u := if f.endsSweep then t.completeSweep else t
  u.withTx { u.port.tx with
    resend := u.port.tx.resend.filter (fun q => decide (q ≠ f.seq))
    fresh := u.port.tx.fresh.filter (fun q => decide (q ≠ f.seq)) }

/-- R105: how many of the oldest frames an ACK carrying `n` retires. -/
def ackCount (s : State) (n : Byte) : Nat := match s.port.inFlight with
  | [] => 0
  | f :: _ =>
    let d := (n - f.seq).toNat
    if d ≤ s.port.inFlight.length then d else 0

/-- R105: an ACK is taken. -/
def takeAck (n : Byte) (s : State) : State :=
  let d := s.ackCount n
  let t := (s.port.inFlight.take d).foldl (fun s f => s.retireFrame f) s
  t.withPort { t.port with inFlight := t.port.inFlight.drop d }

/-! ### Receiving DELTA frames (R109, R112, R135, R164) -/

/-- R135: whether a unit on the active side with a running sweep stands higher, and ignores a SWEEP_BEGIN. -/
def ignoresSweepBegin (s : State) : Bool :=
  s.onActiveSide && decide (s.sweep.state ≠ .idle) && s.higherThanPeer

/-- R135: a SWEEP_BEGIN is applied. R171: between two units of the active side it settles a split, and SPLIT_RESOLVED is latched on the
unit that stands down and on the one that ignores it (DEDUCED, assumption 49). -/
def applySweepBegin (s : State) : State :=
  let t := if s.onActiveSide then s.latch .splitResolved else s
  if s.ignoresSweepBegin then t
  else (if s.onActiveSide then t.standDown else t.setRole .joining).freeWholeTable

/-- R112, R135: a SWEEP_END makes a JOINING unit STANDBY. -/
def applySweepEnd (s : State) : State := if s.role = .joining then s.setRole .standby else s

/-- R164: a YIELD marker. -/
def applyYield (s : State) : State :=
  if s.role = .standby ∧ s.arb.hold = false then s.takeoverEntry true else s

/-- R112: one record applied whole. -/
def applyDelta (d : Delta) (s : State) : State := match d with
  | .full d => s.applyFull d
  | .delete slot v _ => s.applyDelete slot v
  | .sweepBegin => s.applySweepBegin
  | .sweepEnd => s.applySweepEnd
  | .yieldMarker => s.applyYield

/-- R109: an ACK carrying the expected value is put to the transmitter. -/
def putAck (s : State) : State := s.withTx { s.port.tx with acks := s.port.tx.acks ++ [s.port.expected] }

/-- R109: the frame in progress is accepted, and acknowledged. -/
def acceptFrame (s : State) : State := (s.withPort { s.port with expected := s.port.expected + 1 }).putAck

/-- R109, R112: the next record of the frame in progress is applied whole, and what follows from it at once is taken (`followUp`). After
the last one the frame is accepted. -/
def applyNext (s : State) : State := match s.port.applying with
  | [] => s
  | d :: rest =>
    let t := followUp s ((s.withPort { s.port with applying := rest }).applyDelta d)
    if rest = [] then t.acceptFrame else t

/-- R112: a DELTA frame in progress goes on by a record in each step that no command takes; without one the part idles (DESIGN CHOICE,
assumptions 12 and 48). -/
def idle (s : State) : State := if s.resetLow = false ∧ s.up = true ∧ s.port.applying ≠ [] then s.applyNext.kick else s

/-- R109, R112: a frame that is received while a DELTA frame is in progress is taken after the last record of that one, as if idle steps
had come before it (DEDUCED, assumption 48). -/
def frameFinished (s : State) : State := s.port.applying.foldl (fun t _ => t.idle) s

/-- R109: a DELTA frame received while UP. Its first record is applied, and the others wait in `applying`: requests and visits of the
walker may come before each (R112). -/
def receiveDelta (seq : Byte) (ds : List Delta) (s : State) : State :=
  let t := s.heard
  if seq = t.port.expected then (t.withPort { t.port with applying := ds }).applyNext else t.countDiscarded.putAck

end State

/-- As `event`, for a frame received while UP: a DELTA frame in progress is finished before it is taken. -/
def received (s : State) (happens : State → Bool) (f : State → State) : Result :=
  .next (whenRunning s (fun s => if happens s then State.settle s.frameFinished (f s.frameFinished) else s))

end Sys2Proof.Machine
end

