-- ==== Sys2Proof/Machine/PairEvents.lean ====
section
/-! DEFINITION. The pair-port family: carrier, the hello timers, the transmitter, the frame builder, catch-up, retransmission,
and every kind of received frame (chapters 5, 6 and 7). -/

namespace Sys2Proof.Machine

/-! ### Carrier -/

namespace State

/-- R96: carrier appears. In LOOPBACK it is noted only. -/
def carrierAppears (s : State) : State :=
  let t := s.withPort { s.port with carrier := true }
  if s.port.link = .down then (t.withPort { t.port with link := .hello }).helloRestart else t

/-- R96, R113: carrier is lost. In LOOPBACK it is noted only; from UP the relation ends with reason CARRIER. Elsewhere what waits for
the transmitter is dropped, since DOWN sends nothing (R97; DESIGN CHOICE, assumption 50). -/
def carrierLost (s : State) : State :=
  let t := s.withPort { s.port with carrier := false }
  match s.port.link with
  | .up => t.endRelation .carrier
  | .loopback => t
  | _ => t.withPort { t.port with link := .down, tx := t.port.tx.dropWaiting }

end State

/-- CARRIER_UP (R96). -/
def execCarrierUp (s : State) : Result := event s (fun s => !s.port.carrier) (fun s => s.carrierAppears)

/-- CARRIER_LOSS (R113). -/
def execCarrierLoss (s : State) : Result := event s (fun s => s.port.carrier) (fun s => s.carrierLost)

/-! ### The hello timers -/

/-- HELLO_PACING (R120): 10 ms since the last page, the current page is sent again. -/
def execHelloPacing (phase : Nat) (s : State) : Result :=
  timedEvent s phase (fun s => s.exchangeRuns && s.elapsedMs s.hello.pacingSince 10) (fun s => s.sendPage true)

/-- HELLO_TIMEOUT (R123): 500 ms since the exchange moved on, it restarts. -/
def execHelloTimeout (phase : Nat) (s : State) : Result :=
  timedEvent s phase (fun s => s.exchangeRuns && s.elapsedMs s.hello.helloSince 500) (fun s => s.helloBegin)

/-! ### Retransmission -/

namespace State

/-- R107: the oldest frame in flight has gone 5 ms past its send time. -/
def retransmitDue (s : State) : Bool := match s.port.inFlight with
  | f :: _ => match f.sentAt with
    | some t => s.elapsedMs t 5
    | none => false
  | [] => false

/-- R107: every frame in flight is put to the transmitter again, oldest first, and every one of them is counted as resent here, also
one that is retired or dropped before its new transmission begins (DESIGN CHOICE, assumption 36). -/
def goBack (s : State) : State :=
  (s.withPort { s.port with
    inFlight := s.port.inFlight.map (fun f => { f with attempts := f.attempts + 1, sentAt := none })
    tx := { s.port.tx with resend := s.port.inFlight.map (·.seq), fresh := [] } }).countResent s.port.inFlight.length

/-- R108: the oldest frame has been sent 6 times. -/
def exhausted (s : State) : Bool := match s.port.inFlight with
  | f :: _ => decide (Config.maxAttempts ≤ f.attempts)
  | [] => false

end State

/-- RETRANSMIT_TIMEOUT (R107, R108). -/
def execRetransmitTimeout (phase : Nat) (s : State) : Result :=
  timedEvent s phase (fun s => s.up && s.retransmitDue)
    (fun s => if s.exhausted then s.endRelation .exhausted else s.goBack)

/-! ### The transmitter -/

namespace State

/-- R99, R104: the send time of a DELTA frame is recorded in its entry. -/
def recordSend (seq : Byte) (s : State) : State :=
  s.withPort { s.port with
    inFlight := s.port.inFlight.map (fun f => if f.seq = seq then { f with sentAt := some s.clock } else f) }

/-- R115, R116: an outbound probe has been sent. The first of the running test starts its 100 ms; one of an earlier test, still in
transmission when this one began, is not counted and starts nothing. -/
def recordProbe (p : Probe) (s : State) : State := match s.req.running with
  | some t =>
    if p.direction = 0 then
      s.withReq { s.req with running := some (
        if t.earlier then { t with earlier := false }
        else { t with sent := t.sent + 1, since := some (t.since.getD s.clock) }) }
    else s
  | none => s

/-- R99: what the end of a transmission records. -/
def recordSent (f : Frame) (s : State) : State := match f with
  | .delta seq _ => s.recordSend seq
  | .probe p => s.recordProbe p
  | _ => s

/-- R99: the transmission in progress ends. -/
def finishSend (s : State) : State := match s.port.tx.sending with
  | some f => (s.withTx { s.port.tx with sending := none }).recordSent f
  | none => s

end State

/-- TRANSMIT_DONE (R99): the frame's send time is set and the next waiting frame is taken. -/
def execTransmitDone (phase : Nat) (s : State) : Result :=
  timedEvent s phase (fun s => s.port.tx.sending.isSome) (fun s => s.finishSend)

/-! ### The frame builder and catch-up -/

/-- FRAME_BUILD (R104). -/
def execFrameBuild (s : State) : Result := event s (fun s => s.mayBuild) (fun s => s.buildFrame)

namespace State

/-- R89: the end of a pass, and R88: the step to the next slot. -/
def catchupMove (s : State) : State :=
  if s.dq.catchupCursor + 1 < Config.slotCount then s.withDq { s.dq with catchupCursor := s.dq.catchupCursor + 1 }
  else if s.dirtyCount = 0 then (s.withDq { s.dq with catchup := false, catchupCursor := 0 }).latch .catchupDone
  else s.withDq { s.dq with catchupCursor := 0 }

/-- R88: the kind offered for a dirty slot. -/
def repairKind (x : Slot) : QueueKind := match x.body with
  | .doomed _ => .delete
  | _ => .change

/-- R88: a visit of the running engine. On a dirty slot with the queue full it pauses. -/
def catchupVisit (s : State) : State :=
  let i := s.dq.catchupCursor
  if s.dirtyAt i then
    if s.occupancy < Config.deltaQueueLimit then (s.offer (repairKind (s.slot i)) i).catchupMove else s
  else s.catchupMove

end State

/-- CATCHUP_VISIT (R88, R89). The engine pauses while the role is not ACTIVE or TAKEOVER. -/
def execCatchupVisit (s : State) : Result := event s (fun s => s.dq.catchup && s.offersTaken) (fun s => s.catchupVisit)

/-! ### Received frames -/

/-- HELLO_PAGE_RECEIVED (R121). -/
def execHelloPageReceived (payload : List Byte) (s : State) : Result :=
  match parseFrame payload with
  | some (.hello p) => event s (fun s => decide (s.port.link = .hello)) (fun s => s.receiveHello p)
  | _ => .next s

/-- HELLO_IN_UP (R125). -/
def execHelloInUp (payload : List Byte) (s : State) : Result :=
  match parseFrame payload with
  | some (.hello p) => received s (fun s => s.up) (fun s => s.receiveHello p)
  | _ => .next s

namespace State

/-- R102: a BEAT replaces every peer field. -/
def takePeer (b : Beat) (s : State) : State :=
  s.withArb { s.arb with peer := {
    role := some b.role
    health := b.health.toNat
    priority := b.priority.toNat
    letter := if b.letter then 1 else 0
    live := b.live.toNat
    sweep := b.sweep
    lagging := b.lagging
    hold := b.hold } }

/-- R160: whether a BEAT with this role is a claim to a unit in ACTIVE or TAKEOVER. -/
def isClaim (s : State) : Role → Bool
  | .active | .takeover => true
  | .yielding => !s.arb.yieldTaken
  | _ => false

/-- R160: a claim met in ACTIVE or TAKEOVER. -/
def splitByBeat (s : State) : State :=
  let t := s.latch .splitResolved
  if t.higherThanPeer then t.startSweep else t.standDown

/-- R161: no active unit in the relation. -/
def noActivePeer (s : State) : State := if s.higherThanPeer then (s.takeoverEntry false).startSweep else s

/-- R165: two YIELDING units. -/
def splitInYield (s : State) : State :=
  let t := s.latch .splitResolved
  if t.higherThanPeer then ((t.setRole .active).latch .yieldFailed).startSweep else t.standDown

/-- R160, R161, R165: the Role Arbiter's response to a BEAT showing the peer in this role. -/
def answerBeat (peer : Role) (s : State) : State := match s.role with
  | .active | .takeover => if s.isClaim peer then s.splitByBeat else s
  | .joining | .standby => match peer with
    | .joining | .standby => s.noActivePeer
    | _ => s
  | .yielding => match peer with
    | .active | .takeover => s.setRole .standby
    | .yielding => s.splitInYield
    | _ => s
  | .boot | .listen | .isolated => s

/-- R102, R103, R159: a BEAT taken while UP. -/
def receiveBeat (b : Beat) (s : State) : State :=
  let t := (s.heard.takePeer b).answerBeat b.role
  if b.role = .standby then t.setLaneMode .own else t

end State

/-- BEAT_RECEIVED (R102). -/
def execBeatReceived (payload : List Byte) (s : State) : Result :=
  match parseFrame payload with
  | some (.beat b) => received s (fun s => s.up) (fun s => s.receiveBeat b)
  | _ => .next s

/-- DELTA_RECEIVED (R109). The first record of a frame in sequence is applied, and the idle steps that follow apply the others, between
which requests and visits of the walker may come (R112, assumption 48). -/
def execDeltaReceived (payload : List Byte) (s : State) : Result :=
  match parseFrame payload with
  | some (.delta seq ds) => stagedEvent s (fun s => s.up) (fun s => s.frameFinished.receiveDelta seq ds)
  | _ => .next s

/-- ACK_RECEIVED (R105). -/
def execAckReceived (payload : List Byte) (s : State) : Result :=
  match parseFrame payload with
  | some (.ack n) => received s (fun s => s.up) (fun s => s.heard.takeAck n)
  | _ => .next s

/-! ### Probes -/

namespace State

/-- R116: an outbound PROBE goes back unchanged but for its direction. -/
def returnProbe (p : Probe) (s : State) : State :=
  let t := s.heard
  t.withTx { t.port.tx with returned := Transmitter.insertProbe { p with direction := 1 } t.port.tx.returned }

/-- R115, R116: a probe that has come back is counted when the running test, INTERNAL or FAR, has not counted its number and its
pattern is intact. -/
def countProbe (p : Probe) (s : State) : State := match s.req.running with
  | some t =>
    if p.number.toNat < Config.probeCount ∧ p.intact = true ∧ p.number.toNat ∉ t.counted then
      s.withReq { s.req with running := some { t with counted := t.counted ++ [p.number.toNat] } }
    else s
  | none => s

/-- R115, R116: a loop test ends when it has counted all 64. -/
def testFull (s : State) : Bool := match s.req.running with
  | some t => decide (Config.probeCount ≤ t.counted.length)
  | none => false

/-- R96, R115: a loop test ends; the link leaves LOOPBACK by carrier. -/
def endLoopTest (s : State) : State :=
  let t := s.completeLoopTest
  if s.port.link = .loopback then t.withPort { t.port with link := t.linkByCarrier } else t

/-- R115, R116: a probe that has come back. While UP it is from the cable, and only one marked returned counts. -/
def receiveReturned (p : Probe) (s : State) : State :=
  let t := if s.up then s.heard else s
  let u := if s.up ∧ p.direction ≠ 1 then t else t.countProbe p
  if u.testFull then u.endLoopTest else u

/-- R115, R116: where a probe that has come back is taken. Its direction says where it came from: one still outbound is as it was sent
into the internal loop, and is taken in LOOPBACK; one marked otherwise is from the cable, and is taken while UP. So a probe from the
cable that arrives in LOOPBACK is discarded without being counted (DEDUCED, assumption 52). -/
def takesReturned (p : Probe) (s : State) : Bool := if p.direction = 0 then decide (s.port.link = .loopback) else s.up

end State

/-- PROBE_OUTBOUND_RECEIVED (R116). -/
def execProbeOutboundReceived (payload : List Byte) (s : State) : Result :=
  match parseFrame payload with
  | some (.probe p) => received s (fun s => s.up && decide (p.direction = 0)) (fun s => s.returnProbe p)
  | _ => .next s

/-- PROBE_RETURNED (R116, and R115 for the internal loop). -/
def execProbeReturned (payload : List Byte) (s : State) : Result :=
  match parseFrame payload with
  | some (.probe p) => received s (fun s => s.takesReturned p) (fun s => s.receiveReturned p)
  | _ => .next s

/-- R98, R115, R194: whether a received frame is discarded and counted. A frame of another type is no pair frame; in LOOPBACK a
frame from the cable is discarded without being counted, and elsewhere there is no internal loop. -/
def State.countsRejected (etherType : BitVec 16) (checkOk fromCable : Bool) (payload : List Byte) (s : State) : Bool :=
  decide (etherType = pairFrameType) && decide (fromCable = !decide (s.port.link = .loopback)) &&
    (!checkOk || (parseFrame payload).isNone)

/-- FRAME_REJECTED (R98). A DELTA frame in progress goes on: a frame that is discarded waits for nothing. -/
def execFrameRejected (etherType : BitVec 16) (checkOk fromCable : Bool) (payload : List Byte) (s : State) : Result :=
  quietEvent s (fun s => s.countsRejected etherType checkOk fromCable payload) (fun s => s.countDiscarded)

/-- R115, R116: 100 ms have passed since the first probe was sent. -/
def State.loopTestExpired (s : State) : Bool := match s.req.running.bind (·.since) with
  | some t => s.elapsedMs t 100
  | none => false

/-- LOOP_TEST_TIMEOUT (R115, R116). -/
def execLoopTestTimeout (phase : Nat) (s : State) : Result :=
  timedEvent s phase (fun s => s.loopTestExpired) (fun s => s.endLoopTest)

end Sys2Proof.Machine
end

