-- ==== Sys2Proof/Machine/WindowCheck.lean ====
section
/-! DEFINITION. The Window Checker (chapter 2): slack, the three tests, the verdict and the effects of a passing CHECK. -/

namespace Sys2Proof.Machine

/-- R28: the direction of a segment, named by its sender. -/
inductive Direction where | outDir | inDir
  deriving DecidableEq, Repr

/-- R31: the verdicts, in the order R193 codes them. -/
inductive Verdict where | pass | passLoose | below | above | ackAhead
  deriving DecidableEq, Repr

/-- R28: the segment a CHECK judges. -/
structure Segment where
  dir : Direction
  seq : Word
  len : BitVec 16
  ackFlag : Bool
  ack : Word
  window : BitVec 16
  deriving DecidableEq, Repr

/-- R34: the age of the record's picture at the takeover, at most 4,095 ticks. -/
def lagOf (takeoverTick stamp : Word) : Nat := min 4095 (takeoverTick - stamp).toNat

/-- R35: the slack of a loose record. -/
def looseSlack (floor ceiling rate lag : Nat) : Nat := min ceiling (max (min floor ceiling) (rate * (lag + 1)))

/-- R35: the slack of a CHECK. -/
def State.slackFor (s : State) (r : Record) : Nat :=
  if s.loose r then
    looseSlack s.cfg.slackFloor s.cfg.slackCeiling r.rate.toNat (lagOf s.arb.takeoverTick r.stamp)
  else 0

/-- R36: S + L, modulo 2^32. -/
def Segment.last (g : Segment) : Word := g.seq + g.len.zeroExtend 32

/-- The sender's fields (section 2.5). -/
def TcpPart.sender (p : TcpPart) : Direction → TcpDir
  | .outDir => p.outDir
  | .inDir => p.inDir

/-- The fields of the other direction (section 2.5). -/
def TcpPart.other (p : TcpPart) : Direction → TcpDir
  | .outDir => p.inDir
  | .inDir => p.outDir

/-- R36 to R39: the verdict on a segment under this slack. -/
def judge (p : TcpPart) (g : Segment) (slack : Nat) : Verdict :=
  let snd := p.sender g.dir
  let o := signedDiff g.seq snd.edge
  let u := signedDiff g.last snd.wend
  let a := signedDiff g.ack (p.other g.dir).edge
  if o < -(max snd.maxwin.toNat 1 : Int) then .below
  else if (slack : Int) < u then .above
  else if g.ackFlag && decide ((slack : Int) < a) then .ackAhead
  else if u ≤ 0 ∧ (g.ackFlag = false ∨ a ≤ 0) then .pass
  else .passLoose

/-- R39: whether a verdict passes the segment. -/
def Verdict.passes : Verdict → Bool
  | .pass | .passLoose => true
  | _ => false

/-- R40: the sender's fields after a passing CHECK. -/
def TcpDir.advanced (d : TcpDir) (g : Segment) : TcpDir :=
  if later g.last d.edge then { d with edge := g.last } else d

/-- R41: W × 2^scale_s. -/
def effectiveWindow (g : Segment) (scale : Byte) : Nat := g.window.toNat * 2 ^ scale.toNat

/-- R41: the other direction's fields after a passing CHECK. -/
def TcpDir.allowed (d : TcpDir) (g : Segment) (senderScale : Byte) : TcpDir :=
  if g.ackFlag then
    let w := effectiveWindow g senderScale
    let limit := g.ack + BitVec.ofNat 32 w
    { d with
      wend := if later limit d.wend then limit else d.wend
      maxwin := BitVec.ofNat 32 (min maxwinLimit.toNat (max d.maxwin.toNat w)) }
  else d

/-- R40, R41: the TCP part after a passing CHECK. -/
def TcpPart.passed (p : TcpPart) (g : Segment) : TcpPart := match g.dir with
  | .outDir => ⟨p.outDir.advanced g, p.inDir.allowed g p.outDir.scale⟩
  | .inDir => ⟨p.outDir.allowed g p.inDir.scale, p.inDir.advanced g⟩

/-- R42: the seen fields after a passing CHECK of a loose record. -/
def Record.seen (r : Record) (dir : Direction) (epoch : BitVec 16) : Record :=
  let t := if r.seenEpoch = epoch then r else { r with seenEpoch := epoch, seenOut := false, seenIn := false }
  match dir with
  | .outDir => { t with seenOut := true }
  | .inDir => { t with seenIn := true }

/-- R40 to R42: the record after a passing CHECK in ACTIVE or TAKEOVER. -/
def State.passedRecord (s : State) (r : Record) (p : TcpPart) (g : Segment) : Record :=
  let t : Record := { r with
    tcp := some (p.passed g)
    marks := { r.marks with owed := r.marks.owed || s.up } }
  if s.loose r then t.seen g.dir s.arb.epoch else t

end Sys2Proof.Machine
end

