-- ==== Sys2Proof/Machine/Operands.lean ====
section
/-! DEFINITION. Requests and completions as words (sections 11.2 and 11.3): which request a header names, every operand of
every request, and every result field. -/

namespace Sys2Proof.Machine

/-! ### Which request -/

/-- The requests the executor tells apart: a row of the table each. -/
inductive RequestOp where
  | insert | lookup | readSlot | update | touch | remove | check | loopTestInternal | loopTestFar | retryPair | health
  | forceActive | holdStandby | releaseHold | roleRequestYield | setConfig | start | readStatus | readCounters | softReset
  | unknown
  deriving DecidableEq, Repr

/-- R192: the request of a kind with a body of this length; an unknown kind and a wrong length are unknown requests, and so
are a LOOP_TEST mode and a ROLE_REQUEST action that no row of the table stands for. -/
def Request.op (r : Request) : RequestOp :=
  match r.kind.toNat, r.bodyWords with
  | 1, 6 | 1, 13 => .insert
  | 2, 4 => .lookup
  | 3, 1 => .readSlot
  | 4, 8 => .update
  | 5, 6 => .touch
  | 6, 2 => .remove
  | 7, 8 => .check
  | 8, 1 => match (r.word 0).toNat with
    | 0 => .loopTestInternal
    | 1 => .loopTestFar
    | _ => .unknown
  | 9, 0 => .retryPair
  | 10, 1 => .health
  | 11, 1 => match (r.word 0).toNat with
    | 0 => .forceActive
    | 1 => .holdStandby
    | 2 => .releaseHold
    | 3 => .roleRequestYield
    | _ => .unknown
  | 12, 28 => .setConfig
  | 13, 0 => .start
  | 14, 0 => .readStatus
  | 15, 0 => .readCounters
  | 16, 0 => .softReset
  | _, _ => .unknown

/-- R192: the kind of ROLE_REQUEST with its one-word body: its refusals report the role and the hold flag. -/
def Request.isRoleRequest (r : Request) : Bool := decide (r.kind = 11) && decide (r.bodyWords = 1)

/-! ### Operands -/

/-- R192: a key at a word of the body. -/
def Request.key (r : Request) (n : Nat) : Key := keyOfWords (r.word n) (r.word (n + 1)) (r.word (n + 2)) (r.word (n + 3))

/-- R192: a slot index in bits 15–0. -/
def slotField (w : Word) : Nat := (w.extractLsb' 0 16).toNat

/-- R13: the operands of INSERT. `natOption` is 0 NONE, 1 ALLOCATE, 2 EXPLICIT or 3, which is malformed. -/
structure InsertOperands where
  key : Key
  cls : BitVec 3
  pinned : Bool
  natOption : BitVec 2
  nat : NatPart
  tcp : Option TcpPart
  deriving DecidableEq, Repr

/-- R192: the INSERT body. -/
def Request.insertOperands (r : Request) : InsertOperands where
  key := r.key 0
  cls := (r.word 4).extractLsb' 0 3
  pinned := (r.word 4).getLsbD 3
  natOption := (r.word 4).extractLsb' 4 2
  nat := ⟨(r.word 4).extractLsb' 6 2, (r.word 5).extractLsb' 0 16⟩
  tcp :=
    if r.bodyWords = 13 then
      some (tcpOfWords (r.word 6) (r.word 7) (r.word 8) (r.word 9) (r.word 10) (r.word 11) (r.word 12))
    else none

/-- R192: four words of an edge snapshot. -/
def Request.snapshot (r : Request) (n : Nat) : Snapshot := ⟨r.word n, r.word (n + 1), r.word (n + 2), r.word (n + 3)⟩

/-- R17: the operands of UPDATE, each given or not. -/
structure UpdateOperands where
  slot : Nat
  expected : Option Word
  cls : Option (BitVec 3)
  pinned : Option Bool
  scales : Option (Byte × Byte)
  snapshot : Option Snapshot
  natGiven : Bool
  deriving DecidableEq, Repr

/-- A value that is given when a flag is set. -/
def given {α : Type} (flag : Bool) (x : α) : Option α := if flag then some x else none

/-- R192: the UPDATE body. -/
def Request.updateOperands (r : Request) : UpdateOperands where
  slot := slotField (r.word 0)
  expected := given ((r.word 0).getLsbD 16) (r.word 1)
  cls := given ((r.word 0).getLsbD 17) ((r.word 2).extractLsb' 0 3)
  pinned := given ((r.word 0).getLsbD 18) ((r.word 2).getLsbD 3)
  scales := given ((r.word 0).getLsbD 19) ((r.word 3).extractLsb' 0 8, (r.word 3).extractLsb' 8 8)
  snapshot := given ((r.word 0).getLsbD 20) (r.snapshot 4)
  natGiven := (r.word 0).getLsbD 21

/-- R18: the operands of TOUCH. -/
structure TouchOperands where
  slot : Nat
  bytes : Word
  snapshot : Option Snapshot
  deriving DecidableEq, Repr

/-- R192: the TOUCH body. -/
def Request.touchOperands (r : Request) : TouchOperands where
  slot := slotField (r.word 0)
  bytes := r.word 1
  snapshot := given ((r.word 0).getLsbD 16) (r.snapshot 2)

/-- R19: the operands of REMOVE. -/
structure RemoveOperands where
  slot : Nat
  expected : Option Word
  deriving DecidableEq, Repr

/-- R192: the REMOVE body. -/
def Request.removeOperands (r : Request) : RemoveOperands where
  slot := slotField (r.word 0)
  expected := given ((r.word 0).getLsbD 16) (r.word 1)

/-- R28: what a CHECK names: a slot, a key, or, malformed, both or neither. -/
inductive CheckTarget where
  | slot (i : Nat)
  | key (k : Key)
  | malformed
  deriving DecidableEq, Repr

/-- R192: the target of a CHECK. -/
def Request.checkTarget (r : Request) : CheckTarget :=
  match (r.word 0).getLsbD 0, (r.word 0).getLsbD 1 with
  | true, false => .slot ((r.word 0).extractLsb' 16 16).toNat
  | false, true => .key (r.key 1)
  | _, _ => .malformed

/-- R192: the direction of a CHECK; codes 2 and 3 are malformed. -/
def Request.checkDirection (r : Request) : Option Direction :=
  match ((r.word 0).extractLsb' 2 2).toNat with
  | 0 => some .outDir
  | 1 => some .inDir
  | _ => none

/-- R192: the segment of a CHECK. -/
def Request.segment (r : Request) (dir : Direction) : Segment where
  dir := dir
  seq := r.word 5
  len := (r.word 6).extractLsb' 0 16
  ackFlag := (r.word 0).getLsbD 4
  ack := r.word 7
  window := (r.word 6).extractLsb' 16 16

/-! ### Result fields (R193) -/

/-- A number as a result word. -/
def numWord (n : Nat) : Word := BitVec.ofNat 32 n
/-- A flag as a result word. -/
def flagWord (b : Bool) : Word := if b then 1 else 0

/-- R193: the status codes. -/
def Status.code : Status → BitVec 4
  | .none => 0 | .ok => 1 | .exists_ => 2 | .noSession => 3 | .staleVersion => 4 | .tableFull => 5 | .poolEmpty => 6
  | .portTaken => 7 | .notActive => 8 | .notReady => 9 | .notTcp => 10 | .badSlot => 11 | .badRequest => 12
  | .peerPresent => 13

/-- R193: a completion header. -/
def Completion.header (c : Completion) : Word := c.kind ++ c.status.code ++ BitVec.ofNat 6 c.result.length ++ c.tag

/-- R177: the words of a completion. -/
def Completion.words (c : Completion) : List Word := c.header :: c.result

/-- R193: line class codes. -/
def LineClass.code : LineClass → Nat
  | .active => 0 | .standby => 1 | .waiting => 2 | .silent => 3 | .garbled => 4
/-- R193: link state codes, in the order of R96. -/
def LinkState.code : LinkState → Nat
  | .down => 0 | .hello => 1 | .up => 2 | .refused => 3 | .loopback => 4
/-- R193: lane mode codes, in the order of R62. -/
def LaneMode.code : LaneMode → Nat
  | .own => 0 | .both => 1
/-- R193: source codes, in the order of R6. -/
def Source.code : Source → Nat
  | .loc => 0 | .peer => 1
/-- R193: slot state codes, in the order of R2. -/
def SlotBody.code : SlotBody → Nat
  | .free => 0 | .live _ => 1 | .doomed _ => 2
/-- R193: the last end reason. -/
def EndReason.code : EndReason → Nat
  | .none => 0 | .carrier => 1 | .silent => 2 | .exhausted => 3 | .helloSeen => 4 | .softReset => 5
/-- R193: the driver pattern. -/
def patternCode : Option LinePattern → Nat
  | some .active => 0 | some .standby => 1 | some .waiting => 2 | none => 3
/-- R193: the verdict codes. -/
def Verdict.code : Verdict → Nat
  | .pass => 0 | .passLoose => 1 | .below => 2 | .above => 3 | .ackAhead => 4
/-- R193: the peer role, NONE being 8. -/
def peerRoleCode : Option Role → Nat
  | some r => r.code
  | none => 8
/-- R193: the refusal reason: the page in bits 2–0 and PEER in bit 8. -/
def refusalWord : Option RefusalReason → Word
  | some q => numWord (q.page % 8) ||| (if q.byPeer then 256 else 0)
  | none => 0

/-- R193: a NAT binding: its presence word, address index and port. -/
def natWords : Option NatPart → List Word
  | some n => [1, n.index.zeroExtend 32, n.port.zeroExtend 32]
  | none => [0, 0, 0]

/-- R193: a TCP part: its presence word and seven words. -/
def tcpWords : Option TcpPart → List Word
  | some p => 1 :: p.words
  | none => List.replicate 8 0

/-- R16: the record READ_SLOT reports for a FREE slot: every field 0, source LOCAL, both parts absent. -/
def Record.absent : Record where
  key := ⟨0, 0, 0, 0, 0, 0⟩
  home := none
  cls := 0
  pinned := false
  deadline := 0
  deadlineSent := 0
  lastTouch := 0
  rate := 0
  stamp := 0
  baseEpoch := 0
  seenEpoch := 0
  seenOut := false
  seenIn := false
  source := .loc
  nat := none
  tcp := none
  marks := ⟨false, false, false⟩

/-- R16: the whole content of a slot, in the order of R6. -/
def slotWords (x : Slot) : List Word :=
  let r := x.record?.getD Record.absent
  [numWord x.body.code, x.version] ++ r.key.words
    ++ [numWord (r.home.getD 0), r.cls.zeroExtend 32, flagWord r.pinned, r.deadline, r.deadlineSent, r.lastTouch,
        r.rate.zeroExtend 32, r.stamp, r.baseEpoch.zeroExtend 32, r.seenEpoch.zeroExtend 32, flagWord r.seenOut,
        flagWord r.seenIn, numWord r.source.code]
    ++ natWords r.nat ++ tcpWords r.tcp ++ [flagWord r.marks.queued, flagWord r.marks.dirty, flagWord r.marks.owed]

/-! ### READ_STATUS (R187) -/

/-- R76: the free counts of one address: one number in OWN, lane A then lane B in BOTH. -/
def State.freeWords (s : State) (i : Nat) : List Word := (s.pool.usableLanes s.letter).map (fun lane => numWord (s.pool.freeIn i lane))

/-- R150, R171: the peer view. -/
def State.peerWords (s : State) : List Word :=
  let p := s.arb.peer
  [numWord s.monitor.cls.code, numWord s.port.link.code, numWord (peerRoleCode p.role), numWord p.health, numWord p.priority,
    p.letter.zeroExtend 32, numWord p.live, numWord p.sweep.code, flagWord p.lagging, flagWord p.hold]

/-- R187: the snapshot READ_STATUS returns. -/
def State.statusWords (s : State) : List Word :=
  [numWord s.role.code, numWord (patternCode s.driver.pattern), numWord s.arb.health, flagWord s.arb.hold,
    s.letter.byte.zeroExtend 32, numWord s.cfg.priority]
  ++ [s.arb.epoch.zeroExtend 32, s.arb.takeoverTick, numWord (if s.role = .takeover then s.arb.grace else 0),
    numWord s.pool.laneMode.code]
  ++ s.peerWords
  ++ [numWord s.port.link.code, numWord s.port.inFlight.length, numWord s.port.lastEnd.code, refusalWord s.hello.refusal]
  ++ [numWord s.sweep.state.code, numWord s.sweep.cursor]
  ++ [numWord s.occupancy, numWord s.dirtyCount]
  ++ [numWord s.liveCount]
  ++ ([0, 1, 2, 3].filter (fun i => decide (i < s.pool.addrCount))).flatMap s.freeWords
  ++ [s.now]

/-! ### SET_CONFIG (R184) -/

/-- R184: a value below its range is taken as the lower bound, and a value above it as the upper bound. -/
def clampTo (lo hi : Nat) (w : Word) : Nat := max lo (min hi w.toNat)

/-- R184: whether a value was clamped. -/
def wasClamped (lo hi : Nat) (w : Word) : Bool := decide (clampTo lo hi w ≠ w.toNat)

/-- R192: the record a SET_CONFIG body spells, each field clamped to its range (R183). -/
def Request.configOperands (r : Request) : ConfigRecord where
  tickInterval := clampTo 10 1000 (r.word 0)
  heartbeat := clampTo 1 10 (r.word 1)
  beatsLost := clampTo 2 10 (r.word 2)
  listenPeriod := clampTo 10 300 (r.word 3)
  grace := clampTo 10 65535 (r.word 4)
  healthHold := clampTo 1 600 (r.word 5)
  yieldTimeout := clampTo 5 100 (r.word 6)
  priority := clampTo 0 15 (r.word 7)
  preempt := decide (r.word 8 ≠ 0)
  timeouts := Vector.ofFn (fun i : Fin 8 => clampTo 1 65535 (r.word (9 + i)))
  slackFloor := clampTo 0 1073741824 (r.word 17)
  slackCeiling := clampTo 0 1073741824 (r.word 18)
  addrCount := clampTo 1 4 (r.word 19)
  addrs := Vector.ofFn (fun i : Fin 4 => r.word (20 + i))
  staticBlocks := clampTo 0 64 (r.word 24)
  quarantineHold := clampTo 0 65535 (r.word 25)
  poolLow := clampTo 0 32768 (r.word 26)
  seed := r.word 27

/-- R193: a list of fields as a word: bit n stands for the n-th field of the configuration table. -/
def fieldList (fields : List Bool) : Word :=
  fields.foldr (fun b (acc : Word) => (acc <<< 1) ||| flagWord b) 0

/-- R184: the clamped list, in the order of R183. -/
def Request.clampedFields (r : Request) : List Bool :=
  [wasClamped 10 1000 (r.word 0), wasClamped 1 10 (r.word 1), wasClamped 2 10 (r.word 2), wasClamped 10 300 (r.word 3),
    wasClamped 10 65535 (r.word 4), wasClamped 1 600 (r.word 5), wasClamped 5 100 (r.word 6), wasClamped 0 15 (r.word 7),
    false, [0, 1, 2, 3, 4, 5, 6, 7].any (fun i => wasClamped 1 65535 (r.word (9 + i))),
    wasClamped 0 1073741824 (r.word 17), wasClamped 0 1073741824 (r.word 18), wasClamped 1 4 (r.word 19), false,
    wasClamped 0 64 (r.word 24), wasClamped 0 65535 (r.word 25), wasClamped 0 32768 (r.word 26), false]

/-- R184: the fields of `new` that a write outside BOOT does not take: geometry fields that differ from those held. -/
def notAppliedFields (held new : ConfigRecord) : List Bool :=
  [decide (new.tickInterval ≠ held.tickInterval), false, false, false, false, false, false, false, false, false, false, false,
    decide (new.addrCount ≠ held.addrCount), decide (new.addrs ≠ held.addrs), decide (new.staticBlocks ≠ held.staticBlocks),
    false, false, decide (new.seed ≠ held.seed)]

/-- R184: the record after a write outside BOOT: the geometry held is kept. -/
def ConfigRecord.keepGeometry (held new : ConfigRecord) : ConfigRecord :=
  { new with
    tickInterval := held.tickInterval
    addrCount := held.addrCount
    addrs := held.addrs
    staticBlocks := held.staticBlocks
    seed := held.seed }

end Sys2Proof.Machine
end

