-- ==== Sys2Proof/Machine/Execute.lean ====
section
/-! DEFINITION. The executor beginning a request (R176): the head request is begun when the executor is free, the completion queue
has room, and the command is that request's own (assumption 2). -/

namespace Sys2Proof.Machine

/-- R176: the request begun, if it can begin and is this one: it has left the request queue, and is executed whole by `body`. -/
def State.runRequest (op : RequestOp) (body : Request → State → State) (s : State) : Option State :=
  match s.readyRequest with
  | some r => if r.op = op then some (body r s.beginRequest) else none
  | none => none

/-- The outcome of beginning a request, with what follows at once. -/
def execute (s : State) (op : RequestOp) (body : Request → State → State) : Result :=
  .next (whenRunning s (fun s => match s.runRequest op body with
    | some t => State.settle s t
    | none => s))

/-- The outcome of beginning a request that only reads the part: nothing follows. -/
def answer (s : State) (op : RequestOp) (body : Request → State → State) : Result :=
  .next (whenRunning s (fun s => (s.runRequest op body).getD s))

end Sys2Proof.Machine
end

