-- ==== Sys2Proof/Machine/RoleRequests.lean ====
section
/-! DEFINITION. The requests to the Pair Port and the Role Arbiter: LOOP_TEST, RETRY_PAIR, HEALTH and ROLE_REQUEST (chapters 6, 7
and 9). -/

namespace Sys2Proof.Machine

namespace State

/-! ### LOOP_TEST (R115, R116) -/

/-- R194: the outbound probe with this number. -/
def outboundProbe (n : Nat) : Probe := ⟨BitVec.ofNat 8 n, 0, probePattern (BitVec.ofNat 8 n)⟩

/-- R115: probes 0 to 63. -/
def outboundProbes : List Probe := (List.range Config.probeCount).map outboundProbe

/-- Whether an outbound probe is in transmission. -/
def sendsProbe (s : State) : Bool := match s.port.tx.sending with
  | some (.probe p) => decide (p.direction = 0)
  | _ => false

/-- R115, R116: a test begins: the executor holds it, and its probes are put to the transmitter. An outbound probe that is in
transmission at that moment is one of an earlier test. -/
def beginLoopTest (r : Request) (far : Bool) (s : State) : State :=
  let t := s.withReq { s.req with running := some ⟨r.tag, far, 0, [], none, s.sendsProbe⟩ }
  t.withTx { t.port.tx with outbound := outboundProbes }

/-- R115. What waited for the cable is dropped (DESIGN CHOICE, assumption 50). -/
def runLoopTestInternal (r : Request) (s : State) : State :=
  if s.role ≠ .boot then s.complete r .notReady []
  else ((s.withPort { s.port with link := .loopback, tx := s.port.tx.dropWaiting }).beginLoopTest r false)

/-- R116. -/
def runLoopTestFar (r : Request) (s : State) : State :=
  if s.up then s.beginLoopTest r true else s.complete r .notReady []

/-! ### RETRY_PAIR and HEALTH (R127, R170) -/

/-- R127. -/
def runRetryPair (r : Request) (s : State) : State :=
  let t := if s.port.link = .refused then (s.withPort { s.port with link := .hello }).helloRestart else s
  t.complete r .ok []

/-- R170: the health level, written; a change in HELLO restarts the exchange. -/
def setHealth (level : Nat) (s : State) : State :=
  if level = s.arb.health then s else (s.withArb { s.arb with health := level }).helloRestart

/-- R170. -/
def runHealth (r : Request) (s : State) : State :=
  let level := ((r.word 0).extractLsb' 0 8).toNat
  if 7 < level then s.complete r .badRequest []
  else (s.setHealth level).complete r .ok [numWord level]

/-! ### ROLE_REQUEST (R167 to R169) -/

/-- Section 9.8.1: the result of every ROLE_REQUEST: the role after the request and the hold-standby flag. -/
def roleResult (s : State) : List Word := [numWord s.role.code, flagWord s.arb.hold]

/-- A ROLE_REQUEST completes. -/
def completeRole (r : Request) (status : Status) (s : State) : State := s.complete r status s.roleResult

/-- R168. -/
def runForceActive (r : Request) (s : State) : State := match s.role with
  | .listen | .standby | .joining | .isolated =>
    if s.up then s.completeRole r .peerPresent else (s.takeoverEntry false).completeRole r .ok
  | .boot | .active | .takeover | .yielding => s.completeRole r .notReady

/-- R167. -/
def runHoldStandby (r : Request) (s : State) : State :=
  let t := if s.arb.hold then s else (s.withArb { s.arb with hold := true }).stopStagger
  t.completeRole r .ok

/-- R167: the decision a released hold had held back. -/
def decideReleased (s : State) : State := match s.role with
  | .listen => if s.arb.listen = none then s.listenDecision else s
  | .standby | .joining | .isolated => if s.up then s else s.peerLoss false
  | .boot | .active | .takeover | .yielding => s

/-- R167. -/
def runReleaseHold (r : Request) (s : State) : State :=
  let t := if s.arb.hold then (s.withArb { s.arb with hold := false }).decideReleased else s
  t.completeRole r .ok

/-- R169. -/
def runRoleRequestYield (r : Request) (s : State) : State :=
  if s.mayYield then s.beginYield.completeRole r .ok else s.completeRole r .notReady

end State

/-- LOOP_TEST with mode INTERNAL (R115). -/
def execLoopTestInternal (s : State) : Result := execute s .loopTestInternal State.runLoopTestInternal

/-- LOOP_TEST with mode FAR (R116). -/
def execLoopTestFar (s : State) : Result := execute s .loopTestFar State.runLoopTestFar

/-- RETRY_PAIR (R127). -/
def execRetryPair (s : State) : Result := execute s .retryPair State.runRetryPair

/-- HEALTH (R170). -/
def execHealth (s : State) : Result := execute s .health State.runHealth

/-- ROLE_REQUEST FORCE_ACTIVE (R168). -/
def execForceActive (s : State) : Result := execute s .forceActive State.runForceActive

/-- ROLE_REQUEST HOLD_STANDBY (R167). -/
def execHoldStandby (s : State) : Result := execute s .holdStandby State.runHoldStandby

/-- ROLE_REQUEST RELEASE_HOLD (R167). -/
def execReleaseHold (s : State) : Result := execute s .releaseHold State.runReleaseHold

/-- ROLE_REQUEST YIELD (R169). -/
def execRoleRequestYield (s : State) : Result := execute s .roleRequestYield State.runRoleRequestYield

end Sys2Proof.Machine
end

