-- ==== Sys2Proof/Machine/PortRequests.lean ====
section
/-! DEFINITION. The requests of the Request Port itself: SET_CONFIG, START, READ_STATUS, READ_COUNTERS, SOFT_RESET, and a request no
entry accepts (chapter 10, with the binding pass of R75). -/

namespace Sys2Proof.Machine

/-! ### The binding pass (R75) -/

/-- R75, step 2: the record of a LIVE slot as the pass leaves it: its home bucket in a spill slot, or none where a main slot is
not in its key's bucket. -/
def rehomed (seed : Word) (i : Nat) (r : Record) : Option Record :=
  if Config.mainSlots ≤ i then some { r with home := some (r.key.bucket seed) }
  else if i / Config.waysPerBucket = r.key.bucket seed then some r
  else none

/-- R75, step 2: the pool once a kept record's port is bound, or none where the record cannot keep it. A record that names a static
port is kept whatever its address index (DEDUCED, assumption 44): step 2 speaks of lane-region ports, and only R75's warning speaks
of every record beyond the address count. -/
def rebound (p : Pool) (nat : Option NatPart) : Option Pool := match nat with
  | some n =>
    if n.port.toNat < laneStart p.staticBlocks then some p
    else if n.index.toNat < p.addrCount ∧ p.condition n = .free then some (p.bind n)
    else none
  | none => some p

/-- R75, step 2: the visit of one slot: the pool and the slot after it. -/
def bindSlot (seed : Word) (p : Pool) (i : Nat) (x : Slot) : Pool × Slot := match x.body with
  | .live r => match rehomed seed i r with
    | some r' => match rebound p r'.nat with
      | some q => (q, ⟨x.version, .live r'⟩)
      | none => (p, x.freed)
    | none => (p, x.freed)
  | _ => (p, x)

/-- R75, step 2: the slots visited in order, 0 first. -/
def bindTable (seed : Word) : Pool → Table → Pool × Table
  | p, [] => (p, [])
  | p, (i, x) :: rest =>
    let q := bindSlot seed p i x
    let t := bindTable seed q.1 rest
    (t.1, if q.2 = Slot.blank then t.2 else (i, q.2) :: t.2)

/-- R75, step 1: the pool under a geometry, every port free, the cursors at the lane-region start. -/
def Pool.rebuilt (p : Pool) (addrCount staticBlocks : Nat) : Pool :=
  { p with
    addrCount := addrCount
    staticBlocks := staticBlocks
    bound := []
    quarantine := []
    cursors := Vector.replicate 4 (laneStart staticBlocks) }

namespace State

/-- R75: the binding pass. -/
def bindingPass (s : State) : State :=
  let q := bindTable s.cfg.seed (s.pool.rebuilt s.cfg.addrCount s.cfg.staticBlocks) s.table
  ((s.withTable q.2).withPool q.1).evaluateAll

/-! ### START (R186, R152) -/

/-- R152, R186: the role goes from BOOT to LISTEN; the exchange begins if the link state is HELLO. Step 3's beginning and the restart
that a change of role in HELLO makes (R123) are one (DEDUCED, assumption 25): the role change itself ends the hold of R119. -/
def start (s : State) : State :=
  let t := s.bindingPass.setRole .listen
  t.withArb { t.arb with listen := some (.first, 0) }

/-- R186. -/
def runStart (r : Request) (s : State) : State :=
  if s.role = .boot then s.start.complete r .ok [numWord Role.listen.code]
  else s.complete r .notReady [numWord s.role.code]

/-! ### SET_CONFIG (R184, R185) -/

/-- R184: the record SET_CONFIG leaves: all of it in BOOT, all but the geometry in any other role. -/
def configAfter (s : State) (new : ConfigRecord) : ConfigRecord :=
  if s.role = .boot then new else s.cfg.keepGeometry new

/-- R184: the not-applied list. -/
def notApplied (s : State) (new : ConfigRecord) : List Bool :=
  if s.role = .boot then [] else notAppliedFields s.cfg new

/-- R184, R185: the record written. A new threshold evaluates every address (R72, R74), in BOOT too, and a new priority restarts the
exchange while the link state is HELLO (R123). R72 also has a threshold above the usable lanes crossed "at the first evaluation after
START": here the write in BOOT crosses it, latches POOL_LOW and disarms, and START latches no more (DESIGN CHOICE, assumption 51). -/
def writeConfig (new : ConfigRecord) (s : State) : State :=
  let t := s.withCfg new
  let u := if new.poolLow = s.cfg.poolLow then t else t.evaluateAll
  if new.priority = s.cfg.priority then u else u.helloRestart

/-- R184. -/
def runSetConfig (r : Request) (s : State) : State :=
  let new := r.configOperands
  (s.writeConfig (s.configAfter new)).complete r .ok [fieldList r.clampedFields, fieldList (s.notApplied new)]

/-! ### READ_STATUS and READ_COUNTERS (R187, R182) -/

/-- R187. -/
def runReadStatus (r : Request) (s : State) : State := s.complete r .ok s.statusWords

/-- R182: the eight counters in the order of R181, then the drop count. -/
def counterWords (s : State) : List Word :=
  let c := s.req.counters
  [c.framesResent, c.framesDiscarded, c.deltasCoalesced, c.refreshSuppressed, c.overflowMarks, c.quarantineEarly, c.lineGarbled,
    c.relationsEnded, s.req.drops].map numWord

/-- R182: all nine cleared. -/
def clearCounters (s : State) : State := s.withReq { s.req with counters := Counters.zero, drops := 0 }

/-- R182. -/
def runReadCounters (r : Request) (s : State) : State := s.clearCounters.complete r .ok s.counterWords

/-! ### SOFT_RESET (R188, R189) -/

/-- R118, R137: the Pair Port, with no relation left: HELLO or DOWN by carrier, nothing waiting to be sent. -/
def softResetPort (s : State) : State :=
  s.withPort { s.port with
    link := s.linkByCarrier
    inFlight := []
    applying := []
    heartbeat := none
    silence := none
    sweepBegin := false
    sweepEnd := false
    yieldMarker := false
    tx := s.port.tx.dropWaiting }

/-- R137: the hello state's beginning values, the exchange number kept. -/
def softResetHello (s : State) : State := s.withHello { Hello.initial s.clock with exchange := s.hello.exchange }

/-- R25, R95: the table keeps its LIVE records, and the queue is emptied. -/
def softResetTable (s : State) : State := s.clearQueue.withDq DeltaQueue.initial

/-- R77: bound ports stay bound, quarantined ports become free. -/
def softResetPool (s : State) : State :=
  s.withPool { s.pool with quarantine := [], laneMode := .own, armed := Vector.replicate 4 true }

/-- R172: the epoch, the takeover tick and the peer fields are kept. R158: the grace timer stops with the ticks it had left. -/
def softResetArbiter (s : State) : State :=
  s.withArb { Arbiter.initial with
    epoch := s.arb.epoch, takeoverTick := s.arb.takeoverTick, grace := s.arb.grace, peer := s.arb.peer }

/-- R188: the role goes to BOOT, then a relation that is UP ends, before any block is reset. -/
def softResetRelation (s : State) : State :=
  let t := s.setRole .boot
  if t.up then t.endRelation .softReset else t

/-- R188: the effects on the other blocks. The line monitor and the Aging Unit are kept. -/
def softResetBlocks (s : State) : State :=
  ((s.softResetRelation.softResetPort.softResetHello.softResetTable.softResetPool.softResetArbiter).withSweep
    Sweep.initial).withCfg ConfigRecord.defaults

/-- R189, steps 1 to 5: the Request Port. A request partly assembled is kept. -/
def softResetRequests (s : State) : State :=
  (s.withReq { RequestPort.initial with assembling := s.req.assembling }).latch .resetDone

/-- R188, R189. -/
def runSoftReset (r : Request) (s : State) : State :=
  ((s.softResetBlocks.withDue TickDue.none).softResetRequests).complete r .ok []

/-! ### Unknown requests (R176) -/

/-- R176, R192: an unknown kind, a wrong length or an unassigned mode or action completes BAD_REQUEST. A ROLE_REQUEST with an
unknown action reports the role and the hold flag like any other (section 9.8.1). -/
def runUnknownRequest (r : Request) (s : State) : State :=
  s.complete r .badRequest (if r.isRoleRequest then s.roleResult else [])

end State

/-- SET_CONFIG (R184). -/
def execSetConfig (s : State) : Result := execute s .setConfig State.runSetConfig

/-- START (R186). -/
def execStart (s : State) : Result := execute s .start State.runStart

/-- READ_STATUS (R187). -/
def execReadStatus (s : State) : Result := answer s .readStatus State.runReadStatus

/-- READ_COUNTERS (R182). -/
def execReadCounters (s : State) : Result := answer s .readCounters State.runReadCounters

/-- SOFT_RESET (R188). -/
def execSoftReset (s : State) : Result := execute s .softReset State.runSoftReset

/-- UNKNOWN_REQUEST (R176). -/
def execUnknownRequest (s : State) : Result := answer s .unknown State.runUnknownRequest

end Sys2Proof.Machine
end

