-- ==== Sys2Proof/Machine/ResetAndTime.lean ====
section
/-! DEFINITION. The reset family (R197) and the time family: the tick generator (R47), the walker (R52 to R56), and the timers
counted in ticks (R68, R101, R103, R154, R155, R158, R165, R166, R185). -/

namespace Sys2Proof.Machine

/-! ### Reset -/

/-- R62: the unit letter a level of UNIT_SEL gives. -/
def letterOf (unitSel : Bool) : UnitLetter := if unitSel then .b else .a

/-- POWER_ON (R197): every block takes its power-on values and the strap is sampled. RESET_N stands high (DESIGN CHOICE,
assumption 5): a pin that is low as power comes on is the command HARD_RESET right after this one. -/
def execPowerOn (unitSel : Bool) (s : State) : Result := .next (State.initial 0 (letterOf unitSel) false s.pending)

/-- R197: every block takes its power-on values now, at the pin: ROLE_OUT is driven low, and a low run in progress goes on
counting (R140). -/
def State.resetBlocks (letter : UnitLetter) (resetLow : Bool) (s : State) : State :=
  (State.initial s.clock letter resetLow s.pending).withDriver (s.driver.held s.clock)

/-- HARD_RESET (R197): every block takes its power-on values, and keeps them while RESET_N is low. -/
def execHardReset (s : State) : Result := .next (s.resetBlocks s.letter true)

/-- RESET_RELEASE (R197): the part leaves reset and samples the strap. The timers of the reference clock start here; ROLE_OUT has
been low since it went low in or before reset. -/
def execResetRelease (unitSel : Bool) (s : State) : Result :=
  .next (if s.resetLow then s.resetBlocks (letterOf unitSel) false else s)

/-! ### The tick generator -/

/-- Whether a timer runs and its count has reached a period. -/
def reached (count : Option Nat) (period : Nat) : Bool := match count with
  | some n => decide (period ≤ n)
  | none => false

namespace State

/-- R103: beats-lost × heartbeat interval. -/
def silenceLimit (s : State) : Nat := s.cfg.beatsLost * s.cfg.heartbeat

/-- R158, R166, R185: the Role Arbiter's timers at a tick. The health-hold timer stays at the health hold. -/
def tickArbiter (s : State) : State :=
  s.withArb { s.arb with
    grace := if s.role = .takeover then s.arb.grace - 1 else s.arb.grace
    listen := s.arb.listen.map (fun l => (l.1, l.2 + 1))
    healthHold := s.arb.healthHold.map (fun n => if n < s.cfg.healthHold then n + 1 else n)
    yieldTimer := s.arb.yieldTimer.map (· + 1) }

/-- R101, R103: the Pair Port's timers at a tick. -/
def tickPort (s : State) : State :=
  s.withPort { s.port with
    heartbeat := s.port.heartbeat.map (· + 1)
    silence := s.port.silence.map (· + 1) }

/-- R185: each count compared with the period held at this tick. R68: the quarantine list is compared at every tick. -/
def compareTimers (s : State) : State :=
  s.withDue {
    heartbeat := reached s.port.heartbeat s.cfg.heartbeat
    silence := reached s.port.silence s.silenceLimit
    listen := reached (s.arb.listen.map (·.2)) s.cfg.listenPeriod
    healthHold := reached s.arb.healthHold s.cfg.healthHold
    yieldTimer := reached s.arb.yieldTimer s.cfg.yieldTimeout
    quarantine := true }

/-- R47, R52: a tick is taken: the tick count goes up, the walker owes 1,056 visits more, and every timer in ticks counts. -/
def takeTick (s : State) : State :=
  ((s.withAging { s.aging with
    msCount := 0
    ticks := s.aging.ticks + 1
    owed := s.aging.owed + Config.visitsPerTick }).tickArbiter.tickPort).compareTimers

/-- R47: `n` milliseconds end, none of them but perhaps the last taking a tick. -/
def endMs (n : Nat) (s : State) : State :=
  let t := s.passMs n
  let count := s.aging.msCount + n
  if s.cfg.tickInterval ≤ count then t.takeTick else t.withAging { t.aging with msCount := count }

/-- R47, R48: how many milliseconds there are to the next tick. -/
def msToTick (s : State) : Nat := max 1 (s.cfg.tickInterval - s.aging.msCount)

end State

/-- MILLISECOND (R47). In reset only the reference clock runs on. -/
def execMillisecond (s : State) : Result := .next (if s.resetLow then s.passMs 1 else s.endMs 1)

/-- TICK (R47): the milliseconds left to the next tick end, and the tick is taken. -/
def execTick (s : State) : Result := .next (whenRunning s (fun s => s.endMs s.msToTick))

/-! ### The walker -/

namespace State

/-- R52: the position moves one slot forward, wrapping, and one visit less is owed. -/
def advanceWalker (s : State) : State :=
  s.withAging { s.aging with
    position := if s.aging.position + 1 < Config.slotCount then s.aging.position + 1 else 0
    owed := s.aging.owed - 1 }

/-- R53: the visit of a slot. -/
def visit (i : Nat) (s : State) : State :=
  if s.forwarding then
    match (s.slot i).live? with
    | some r => if s.expired r then s.endSession i r true else s.owedRefresh i r
    | none => s
  else s

end State

/-- WALKER_VISIT (R53). -/
def execWalkerVisit (s : State) : Result :=
  event s (fun s => decide (0 < s.aging.owed)) (fun s => (s.visit s.aging.position).advanceWalker)

/-! ### Expiries at a tick -/

/-- QUARANTINE_HOLD_EXPIRY (R68). -/
def execQuarantineHoldExpiry (s : State) : Result :=
  quietEvent s (fun s => s.due.quarantine) (fun s =>
    (s.changePool (fun p => { p with quarantine := Pool.unserved s.cfg.quarantineHold s.now p.quarantine })).withDue
      { s.due with quarantine := false })

/-- HEARTBEAT_TIMEOUT (R101). -/
def execHeartbeatTimeout (s : State) : Result :=
  event s (fun s => s.due.heartbeat && s.up && reached s.port.heartbeat s.cfg.heartbeat)
    (fun s => (s.withDue { s.due with heartbeat := false }).putBeat)

/-- SILENCE_TIMEOUT (R103): the relation ends with reason SILENT. -/
def execSilenceTimeout (s : State) : Result :=
  event s (fun s => s.due.silence && s.up && reached s.port.silence s.silenceLimit)
    (fun s => (s.withDue { s.due with silence := false }).endRelation .silent)

/-- GRACE_END (R158). -/
def execGraceEnd (s : State) : Result :=
  event s (fun s => decide (s.role = .takeover) && decide (s.arb.grace = 0)) (fun s =>
    let t := (s.setRole .active).latch .graceEnded
    if s.up then t else t.setLaneMode .both)

/-- R154, R155, R185: whether the last tick found the listen timer at the listen period, running for this purpose. -/
def State.listenEnded (s : State) (purpose : ListenPurpose) : Bool :=
  s.due.listen && decide (s.arb.listen.map (·.1) = some purpose) &&
    reached (s.arb.listen.map (·.2)) s.cfg.listenPeriod

/-- The last tick's listen expiry, taken. -/
def State.clearListenDue (s : State) : State := s.withDue { s.due with listen := false }

/-- LISTEN_PERIOD_END (R154). -/
def execListenPeriodEnd (s : State) : Result :=
  event s (fun s => s.listenEnded .first && decide (s.role = .listen)) (fun s => s.clearListenDue.listenDecision)

/-- SECOND_LISTEN_END (R154). -/
def execSecondListenEnd (s : State) : Result :=
  event s (fun s => s.listenEnded .second && decide (s.role = .listen)) (fun s => s.clearListenDue.secondListenDecision)

/-- STAGGER_END (R155): the timer stops and the decision is made once more. -/
def execStaggerEnd (s : State) : Result :=
  event s (fun s => s.listenEnded .stagger) (fun s => s.clearListenDue.stopListen.peerLoss true)

/-- HEALTH_HOLD_YIELD (R166): at a tick with the timer at the health hold, the yield begins if the conditions hold. -/
def execHealthHoldYield (s : State) : Result :=
  event s (fun s => s.due.healthHold && reached s.arb.healthHold s.cfg.healthHold && s.healthHoldRuns) (fun s =>
    let t := s.withDue { s.due with healthHold := false }
    if t.mayYield then t.beginYield else t)

/-- YIELD_TIMEOUT (R165). -/
def execYieldTimeout (s : State) : Result :=
  event s (fun s => s.due.yieldTimer && decide (s.role = .yielding) && reached s.arb.yieldTimer s.cfg.yieldTimeout)
    (fun s => ((s.withDue { s.due with yieldTimer := false }).setRole .active).latch .yieldFailed)

end Sys2Proof.Machine
end

