-- ==== Sys2Proof/Machine/TableRequests.lean ====
section
/-! DEFINITION. The table requests and CHECK (chapters 1 and 2). Each runs its checks in the order its entry gives. -/

namespace Sys2Proof.Machine

namespace State

/-! ### INSERT (R13, R14) -/

/-- R13, check 2. -/
def insertMalformed (s : State) (o : InsertOperands) : Bool :=
  decide (o.tcp.isSome ≠ decide (o.key.protocol = protoTcp)) ||
    match o.natOption.toNat with
    | 0 => false
    | 1 => decide (s.cfg.addrCount ≤ o.nat.index.toNat)
    | 2 => decide (s.cfg.addrCount ≤ o.nat.index.toNat) || decide (o.nat.port.toNat < Config.firstPort)
    | _ => true

/-- R13, check 5: the binding the Port Pool would give, or the status of its refusal (R65, R66). -/
def askPool (s : State) (o : InsertOperands) : Except Status (Option NatPart) :=
  match o.natOption.toNat with
  | 1 => match s.pool.allocate s.letter o.nat.index with
    | some port => .ok (some ⟨o.nat.index, BitVec.ofNat 16 port⟩)
    | none => .error .poolEmpty
  | 2 => if s.pool.serves o.nat ∧ s.pool.condition o.nat ≠ .free then .error .portTaken else .ok (some o.nat)
  | _ => .ok none

/-- R65, R66: the Port Pool makes the binding it was asked for. -/
def grantPort (o : InsertOperands) (nat : Option NatPart) (s : State) : State := match nat with
  | some n =>
    if o.natOption = 1 then s.changePool (·.allocated n.index n.port.toNat) else s.bindPort nat
  | none => s

/-- R14: the record INSERT leaves in slot `i`. -/
def insertedRecord (s : State) (i : Nat) (o : InsertOperands) (nat : Option NatPart) : Record :=
  let k := o.key.normalise
  { key := k
    home := homeOf i (k.bucket s.cfg.seed)
    cls := o.cls
    pinned := o.pinned
    deadline := s.deadlineFor o.cls
    deadlineSent := s.deadlineFor o.cls
    lastTouch := s.now
    rate := 0
    stamp := s.now
    baseEpoch := s.arb.epoch
    seenEpoch := s.arb.epoch
    seenOut := false
    seenIn := false
    source := .loc
    nat := nat
    tcp := o.tcp.map (·.stored)
    marks := Marks.clear }

/-- R14: the record is placed and a CREATE offered. -/
def place (i : Nat) (o : InsertOperands) (nat : Option NatPart) (s : State) : State :=
  let v := (s.slot i).version + 1
  ((s.grantPort o nat).setSlot i ⟨v, .live (s.insertedRecord i o nat)⟩).offer .create i

/-- R14: the result of a successful INSERT: the slot, the version and the public port, or none. -/
def insertResult (s : State) (i : Nat) (nat : Option NatPart) : List Word :=
  [numWord i, (s.slot i).version + 1] ++ (match nat with
    | some n => [1, n.port.zeroExtend 32]
    | none => [0, 0])

/-- R13: the result of EXISTS. -/
def existsResult (s : State) (i : Nat) : List Word :=
  [numWord i, (s.slot i).version] ++ natWords ((s.slot i).record?.bind (·.nat))

/-- R13, R14. -/
def runInsert (r : Request) (s : State) : State :=
  let o := r.insertOperands
  if !s.forwarding then s.complete r .notActive []
  else if s.insertMalformed o then s.complete r .badRequest []
  else match lookupKey s.table s.cfg.seed o.key with
    | some i => s.complete r .exists_ (s.existsResult i)
    | none => match placeFor s.table (o.key.normalise.bucket s.cfg.seed) with
      | none => s.complete r .tableFull []
      | some i => match s.askPool o with
        | .error e => s.complete r e []
        | .ok nat => (s.place i o nat).complete r .ok (s.insertResult i nat)

/-! ### LOOKUP and READ_SLOT (R15, R16) -/

/-- R15: what LOOKUP reports of a LIVE record. -/
def lookupResult (s : State) (i : Nat) (r : Record) : List Word :=
  [numWord i, (s.slot i).version, r.cls.zeroExtend 32, numWord r.source.code, flagWord (s.loose r)] ++ natWords r.nat

/-- R15. -/
def runLookup (r : Request) (s : State) : State :=
  if s.role = .boot then s.complete r .notReady []
  else match lookupKey s.table s.cfg.seed (r.key 0) with
    | some i => s.complete r .ok (s.lookupResult i ((s.slot i).live?.getD Record.absent))
    | none => s.complete r .noSession []

/-- R16. -/
def runReadSlot (r : Request) (s : State) : State :=
  let i := slotField (r.word 0)
  if Config.slotCount ≤ i then s.complete r .badSlot [] else s.complete r .ok (slotWords (s.slot i))

/-! ### UPDATE (R17) -/

/-- R17, check 3. -/
def updateMalformed (o : UpdateOperands) : Bool :=
  o.natGiven || !(o.cls.isSome || o.pinned.isSome || o.scales.isSome || o.snapshot.isSome)

/-- R17, check 5; R19, check 4: an expected version is given and differs. -/
def staleVersion (s : State) (i : Nat) (expected : Option Word) : Bool := match expected with
  | some v => decide (v ≠ (s.slot i).version)
  | none => false

/-- R17: the record with the given fields written. -/
def updatedRecord (s : State) (o : UpdateOperands) (r : Record) : Record :=
  let r1 : Record := match o.cls with
    | some c => { r with cls := c, deadline := s.deadlineFor c }
    | none => r
  let r2 : Record := { r1 with
    pinned := o.pinned.getD r1.pinned
    tcp := match o.scales with
      | some (out, in_) => r1.tcp.map (fun p => p.writeScales out in_)
      | none => r1.tcp }
  match o.snapshot with
  | some e => r2.snapshot e s.now s.arb.epoch
  | none => r2

/-- R17, R18: the result that gives the slot and its version. -/
def slotVersion (s : State) (i : Nat) : List Word := [numWord i, (s.slot i).version]

/-- R17. -/
def runUpdate (q : Request) (s : State) : State :=
  let o := q.updateOperands
  if !s.forwarding then s.complete q .notActive []
  else if Config.slotCount ≤ o.slot then s.complete q .badSlot []
  else if updateMalformed o then s.complete q .badRequest []
  else match (s.slot o.slot).live? with
    | none => s.complete q .noSession []
    | some r =>
      if s.staleVersion o.slot o.expected then s.complete q .staleVersion [(s.slot o.slot).version]
      else if (o.scales.isSome || o.snapshot.isSome) && r.tcp.isNone then s.complete q .notTcp []
      else
        let t := (s.setSlot o.slot ⟨(s.slot o.slot).version + 1, .live (s.updatedRecord o r)⟩).offer .change o.slot
        t.complete q .ok (t.slotVersion o.slot)

/-! ### TOUCH (R18, R45, R84) -/

/-- R18, steps 1 to 4. -/
def touchedRecord (s : State) (o : TouchOperands) (r : Record) : Record :=
  let r1 : Record := { r with
    deadline := s.deadlineFor r.cls
    rate := smoothedRate r.rate o.bytes s.now r.lastTouch
    lastTouch := s.now }
  match o.snapshot with
  | some e => r1.snapshot e s.now s.arb.epoch
  | none => r1

/-- R18: whether the deadline has moved a refresh quantum past the deadline sent. -/
def quantumMet (s : State) (r : Record) : Bool :=
  decide ((s.cfg.quantum r.cls : Int) ≤ signedDiff r.deadline r.deadlineSent)

/-- R18, R84: the refresh a TOUCH owes while a relation is UP. -/
def touchRefresh (i : Nat) (o : TouchOperands) (r : Record) (s : State) : State :=
  if s.up then
    let t := if o.snapshot.isSome then s.setOwed i true else s
    if s.quantumMet r then
      if t.belowWatermark then t.offer .refresh i else (t.setOwed i true).countSuppressed
    else t.setOwed i true
  else s

/-- R18. -/
def runTouch (q : Request) (s : State) : State :=
  let o := q.touchOperands
  if !s.forwarding then s.complete q .notActive []
  else if Config.slotCount ≤ o.slot then s.complete q .badSlot []
  else match (s.slot o.slot).live? with
    | none => s.complete q .noSession []
    | some r =>
      if o.snapshot.isSome && r.tcp.isNone then s.complete q .notTcp []
      else
        let r' := s.touchedRecord o r
        let t := (s.setSlot o.slot ⟨(s.slot o.slot).version + 1, .live r'⟩).touchRefresh o.slot o r'
        t.complete q .ok (t.slotVersion o.slot)

/-! ### REMOVE (R19) -/

/-- R19. -/
def runRemove (q : Request) (s : State) : State :=
  let o := q.removeOperands
  if !s.forwarding then s.complete q .notActive []
  else if Config.slotCount ≤ o.slot then s.complete q .badSlot []
  else match (s.slot o.slot).live? with
    | none => s.complete q .noSession []
    | some r =>
      if s.staleVersion o.slot o.expected then s.complete q .staleVersion [(s.slot o.slot).version]
      else
        let t := s.endSession o.slot r false
        t.complete q .ok (t.slotVersion o.slot)

/-! ### CHECK (R28 to R44) -/

/-- R28, check 1: the roles that admit CHECK. -/
def admitsCheck (s : State) : Bool := s.onActiveSide

/-- R28, R29: the slot a CHECK judges, or the status and result of its refusal. A slot target is echoed (R31). -/
def checkSlot (s : State) : CheckTarget → Except (Status × List Word) Nat
  | .slot i =>
    if Config.slotCount ≤ i then .error (.badSlot, [numWord i])
    else if (s.slot i).live?.isNone then .error (.noSession, [numWord i])
    else .ok i
  | .key k => match lookupKey s.table s.cfg.seed k with
    | some i => .ok i
    | none => .error (.noSession, [])
  | .malformed => .error (.badRequest, [])

/-- R40 to R42: the record effects of a verdict: taken when it passes in ACTIVE or TAKEOVER. -/
def checkEffects (i : Nat) (r : Record) (p : TcpPart) (g : Segment) (v : Verdict) (s : State) : State :=
  if v.passes && s.forwarding then s.setSlot i ⟨(s.slot i).version + 1, .live (s.passedRecord r p g)⟩ else s

/-- R31: the result of a CHECK, from the state as it found it and as it left it. -/
def checkResult (i : Nat) (r : Record) (p : TcpPart) (g : Segment) (v : Verdict) (before after : State) : List Word :=
  [numWord i, (after.slot i).version, numWord v.code, flagWord (before.loose r), numWord (before.slackFor r),
    flagWord (decide (before.role = .yielding)),
    ((((after.slot i).live?.bind (·.tcp)).getD p).sender g.dir).edge]

/-- R30: the judgment of a segment against the record of a LIVE slot. -/
def judgeSlot (q : Request) (i : Nat) (dir : Direction) (s : State) : State :=
  let r := (s.slot i).live?.getD Record.absent
  match r.tcp with
  | none => s.complete q .notTcp []
  | some p =>
    let g := q.segment dir
    let v := judge p g (s.slackFor r)
    let t := s.checkEffects i r p g v
    t.complete q .ok (checkResult i r p g v s t)

/-- R28. -/
def runCheck (q : Request) (s : State) : State :=
  if !s.admitsCheck then s.complete q .notActive []
  else match q.checkDirection with
    | none => s.complete q .badRequest []
    | some dir => match s.checkSlot q.checkTarget with
      | .error e => s.complete q e.1 e.2
      | .ok i => s.judgeSlot q i dir

end State

/-- INSERT (R13). -/
def execInsert (s : State) : Result := execute s .insert State.runInsert

/-- LOOKUP (R15). -/
def execLookup (s : State) : Result := answer s .lookup State.runLookup

/-- READ_SLOT (R16). -/
def execReadSlot (s : State) : Result := answer s .readSlot State.runReadSlot

/-- UPDATE (R17). -/
def execUpdate (s : State) : Result := execute s .update State.runUpdate

/-- TOUCH (R18). -/
def execTouch (s : State) : Result := execute s .touch State.runTouch

/-- REMOVE (R19). -/
def execRemove (s : State) : Result := execute s .remove State.runRemove

/-- CHECK (R28). -/
def execCheck (s : State) : Result := execute s .check State.runCheck

end Sys2Proof.Machine
end

