-- ==== Sys2Proof/Machine/Window.lean ====
section
/-! DEFINITION. The memory window (R173 to R180, R191) and the interrupt pin. -/

namespace Sys2Proof.Machine

/-- R191: a write is taken as a whole word, its unwritten bytes 0. -/
def laneWord (word : Word) (lanes : BitVec 4) : Word :=
  let byte (n : Nat) : Byte := if lanes.getLsbD n then word.extractLsb' (8 * n) 8 else 0
  byte 3 ++ byte 2 ++ byte 1 ++ byte 0

namespace State

/-- R175: a taken request joins the queue, or is dropped at a full one. -/
def takeRequest (r : Request) (s : State) : State :=
  if s.req.queue.length < Config.requestLimit then s.withReq { s.req with queue := s.req.queue ++ [r] }
  else (s.withReq { s.req with drops := saturate s.req.drops 1 }).latch .requestOverrun

/-- R174: a word joins the request being assembled, and the last one takes it. -/
def assemble (w : Word) (s : State) : State :=
  let r : Request := match s.req.assembling with
    | none => ⟨w, []⟩
    | some r => { r with body := r.body ++ [w] }
  if r.bodyWords ≤ r.body.length then (s.withReq { s.req with assembling := none }).takeRequest r
  else s.withReq { s.req with assembling := some r }

/-- R178: what a read of the completion window returns: the next word of the head completion, or the word 0 of a NONE record. -/
def completionWord (s : State) : Word := match s.req.completions with
  | c :: _ => c.words.getD s.req.readPos 0
  | [] => 0

/-- R178: the read position moves on, and the head completion leaves with its last word. -/
def advanceCompletion (s : State) : State := match s.req.completions with
  | c :: rest =>
    if s.req.readPos + 1 < c.words.length then s.withReq { s.req with readPos := s.req.readPos + 1 }
    else s.withReq { s.req with completions := rest, readPos := 0 }
  | [] => s

/-- R191: the word of the queue levels, which has no command of its own: a read changes nothing (R173). -/
def queueLevels (s : State) : Word :=
  BitVec.ofNat 16 s.req.drops ++ (0#1 ++ BitVec.ofNat 7 s.req.completions.length)
    ++ (0#2 ++ BitVec.ofNat 6 s.req.queue.length)

/-- R173, R191, R197: what a read of the window that changes nothing returns: the queue levels at 8 and the event enable at 16, 0 at
the request window and at 20 to 31, and 0 at every item while RESET_N is low. -/
def quietRead (s : State) (offset : Nat) : Word :=
  if s.resetLow then 0
  else match offset / 4 with
    | 2 => s.queueLevels
    | 4 => s.req.enable.zeroExtend 32
    | _ => 0

/-- R179, R197: the level of INT_N, low while the interrupt is asserted; released in reset. -/
def intN (s : State) : Bool := s.resetLow || !s.interrupt

/-- R197: the level of ROLE_OUT, low in reset. -/
def roleOut (s : State) : Bool := !s.resetLow && s.driver.level

end State

/-- REQUEST_WINDOW_WRITE (R174, R175). Ignored while RESET_N is low (R197). -/
def execRequestWindowWrite (word : Word) (lanes : BitVec 4) (s : State) : Result :=
  .next (whenRunning s (fun s => s.assemble (laneWord word lanes)))

/-- COMPLETION_WINDOW_READ (R178). It returns 0 while RESET_N is low (R197). -/
def execCompletionWindowRead (s : State) : Result :=
  .next (if s.resetLow then s.withBusData 0 else (s.withBusData s.completionWord).advanceCompletion)

/-- EVENT_LATCH_READ (R180): the latch is returned and cleared whole. It returns 0 while RESET_N is low (R197). -/
def execEventLatchRead (s : State) : Result :=
  .next (if s.resetLow then s.withBusData 0
    else (s.withBusData (s.req.latch.zeroExtend 32)).withReq { s.req with latch := 0 })

/-- EVENT_ENABLE_WRITE (R180): all 16 bits are replaced. Ignored while RESET_N is low (R197). -/
def execEventEnableWrite (word : Word) (lanes : BitVec 4) (s : State) : Result :=
  .next (whenRunning s (fun s => s.withReq { s.req with enable := (laneWord word lanes).extractLsb' 0 16 }))

/-- IGNORED_WINDOW_WRITE (R173, R191): a write to an item or an offset that takes none. -/
def execIgnoredWindowWrite (_offset : Nat) (_word : Word) (s : State) : Result := .next s

end Sys2Proof.Machine
end

