-- ==== Sys2Proof/Machine/Dispatch.lean ====
section
/-! DEFINITION. The dispatch: one arm per command, each one direct call of its meaning. -/

namespace Sys2Proof.Machine

def exec (i : Instr) (s : State) : Host.Outcome State Fault Refusal :=
  match i with
  | .powerOn unitSel => Sys2Proof.Machine.execPowerOn unitSel s
  | .hardReset => Sys2Proof.Machine.execHardReset s
  | .resetRelease unitSel => Sys2Proof.Machine.execResetRelease unitSel s
  | .carrierUp => Sys2Proof.Machine.execCarrierUp s
  | .carrierLoss => Sys2Proof.Machine.execCarrierLoss s
  | .tick => Sys2Proof.Machine.execTick s
  | .walkerVisit => Sys2Proof.Machine.execWalkerVisit s
  | .quarantineHoldExpiry => Sys2Proof.Machine.execQuarantineHoldExpiry s
  | .heartbeatTimeout => Sys2Proof.Machine.execHeartbeatTimeout s
  | .silenceTimeout => Sys2Proof.Machine.execSilenceTimeout s
  | .graceEnd => Sys2Proof.Machine.execGraceEnd s
  | .listenPeriodEnd => Sys2Proof.Machine.execListenPeriodEnd s
  | .secondListenEnd => Sys2Proof.Machine.execSecondListenEnd s
  | .staggerEnd => Sys2Proof.Machine.execStaggerEnd s
  | .healthHoldYield => Sys2Proof.Machine.execHealthHoldYield s
  | .yieldTimeout => Sys2Proof.Machine.execYieldTimeout s
  | .helloPacing phase => Sys2Proof.Machine.execHelloPacing phase s
  | .helloTimeout phase => Sys2Proof.Machine.execHelloTimeout phase s
  | .retransmitTimeout phase => Sys2Proof.Machine.execRetransmitTimeout phase s
  | .transmitDone phase => Sys2Proof.Machine.execTransmitDone phase s
  | .frameBuild => Sys2Proof.Machine.execFrameBuild s
  | .catchupVisit => Sys2Proof.Machine.execCatchupVisit s
  | .helloPageReceived payload => Sys2Proof.Machine.execHelloPageReceived payload s
  | .helloInUp payload => Sys2Proof.Machine.execHelloInUp payload s
  | .beatReceived payload => Sys2Proof.Machine.execBeatReceived payload s
  | .deltaReceived payload => Sys2Proof.Machine.execDeltaReceived payload s
  | .ackReceived payload => Sys2Proof.Machine.execAckReceived payload s
  | .probeOutboundReceived payload => Sys2Proof.Machine.execProbeOutboundReceived payload s
  | .probeReturned payload => Sys2Proof.Machine.execProbeReturned payload s
  | .frameRejected etherType checkOk fromCable payload => Sys2Proof.Machine.execFrameRejected etherType checkOk fromCable payload s
  | .loopTestTimeout phase => Sys2Proof.Machine.execLoopTestTimeout phase s
  | .lineRepetitionJudged phase lowRun => Sys2Proof.Machine.execLineRepetitionJudged phase lowRun s
  | .repetitionClosureTimeout phase => Sys2Proof.Machine.execRepetitionClosureTimeout phase s
  | .unalignedPeriodEnd phase => Sys2Proof.Machine.execUnalignedPeriodEnd phase s
  | .lineSilenceTimeout phase => Sys2Proof.Machine.execLineSilenceTimeout phase s
  | .requestWindowWrite word lanes => Sys2Proof.Machine.execRequestWindowWrite word lanes s
  | .completionWindowRead => Sys2Proof.Machine.execCompletionWindowRead s
  | .eventLatchRead => Sys2Proof.Machine.execEventLatchRead s
  | .eventEnableWrite word lanes => Sys2Proof.Machine.execEventEnableWrite word lanes s
  | .ignoredWindowWrite offset word => Sys2Proof.Machine.execIgnoredWindowWrite offset word s
  | .insert => Sys2Proof.Machine.execInsert s
  | .lookup => Sys2Proof.Machine.execLookup s
  | .readSlot => Sys2Proof.Machine.execReadSlot s
  | .update => Sys2Proof.Machine.execUpdate s
  | .touch => Sys2Proof.Machine.execTouch s
  | .remove => Sys2Proof.Machine.execRemove s
  | .check => Sys2Proof.Machine.execCheck s
  | .loopTestInternal => Sys2Proof.Machine.execLoopTestInternal s
  | .loopTestFar => Sys2Proof.Machine.execLoopTestFar s
  | .retryPair => Sys2Proof.Machine.execRetryPair s
  | .health => Sys2Proof.Machine.execHealth s
  | .forceActive => Sys2Proof.Machine.execForceActive s
  | .holdStandby => Sys2Proof.Machine.execHoldStandby s
  | .releaseHold => Sys2Proof.Machine.execReleaseHold s
  | .roleRequestYield => Sys2Proof.Machine.execRoleRequestYield s
  | .setConfig => Sys2Proof.Machine.execSetConfig s
  | .start => Sys2Proof.Machine.execStart s
  | .readStatus => Sys2Proof.Machine.execReadStatus s
  | .readCounters => Sys2Proof.Machine.execReadCounters s
  | .softReset => Sys2Proof.Machine.execSoftReset s
  | .unknownRequest => Sys2Proof.Machine.execUnknownRequest s
  | .millisecond => Sys2Proof.Machine.execMillisecond s
  | .lineRisingEdge phase lowRun => Sys2Proof.Machine.execLineRisingEdge phase lowRun s
  | .midBitSample phase level => Sys2Proof.Machine.execMidBitSample phase level s
  | .driverBitTime phase => Sys2Proof.Machine.execDriverBitTime phase s

end Sys2Proof.Machine
end

