-- ==== Sys2Proof/Machine/Step.lean ====
section
/-! DEFINITION. The step: the command at the front of the queue is executed; on an empty queue the part idles, but for a DELTA frame in
progress (assumptions 12 and 48). -/

namespace Sys2Proof.Machine

/-- One step: the front command, executed on the state with the rest of the queue, or an idle step. -/
def step (s : State) : Host.Outcome State Fault Refusal := match s.pending with
  | i :: rest => exec i (s.withPending rest)
  | [] => .next s.idle

/-- `s` with the command a table word spells in front of its queue. No word spells one (assumption 1). -/
def State.withFetchWord (s : State) (nbits w : Nat) : State := match decodeTableWord nbits w with
  | some i => s.withPending (i :: s.pending)
  | none => s

end Sys2Proof.Machine
end

