-- ==== Sys2Proof/Safety.lean ====
section
/-! DEFINITION. Safe states, in the manual's own bounds, and the words in which claims speak of a step: a request that can
begin, a completion posted, a relation ended, a takeover entered, and what a step may have set going besides its own effect. -/

namespace Sys2Proof.Machine

/-! ### Safe states -/

/-- R181: every counter within 16 bits. -/
def Counters.bounded (c : Counters) : Prop :=
  c.framesResent ≤ 65535 ∧ c.framesDiscarded ≤ 65535 ∧ c.deltasCoalesced ≤ 65535 ∧ c.refreshSuppressed ≤ 65535 ∧
  c.overflowMarks ≤ 65535 ∧ c.quarantineEarly ≤ 65535 ∧ c.lineGarbled ≤ 65535 ∧ c.relationsEnded ≤ 65535

/-- R175, R176, R181: the Request Port within its bounds. While LOOP_TEST is held there is room for its completion. -/
def RequestPort.bounded (r : RequestPort) : Prop :=
  r.queue.length ≤ 32 ∧ r.completions.length ≤ 64 ∧ (r.running.isSome = true → r.completions.length < 64) ∧
  r.drops ≤ 65535 ∧ r.counters.bounded

/-- R78: at most 1,024 entries, and at most one for a slot. -/
def DeltaQueue.bounded (q : DeltaQueue) : Prop := q.entries.length ≤ 1024 ∧ (q.entries.map (·.slot)).Nodup

/-- R104: at most 8 frames in flight, each of 1 to 20 records, numbered consecutively modulo 256 up to the next number. -/
def PairPort.numbered (p : PairPort) : Prop :=
  p.inFlight.length ≤ 8 ∧
  ∀ (k : Nat) (f : InFlight), p.inFlight[k]? = some f →
    f.seq = p.nextSeq - BitVec.ofNat 8 (p.inFlight.length - k) ∧ 1 ≤ f.records.length ∧ f.records.length ≤ 20

/-- R63, R67: no port both bound and quarantined, each quarantined port listed once, at most 512 of them. The list of bound ports stands in
rising order, the model's own form. -/
def Pool.sound (p : Pool) : Prop :=
  p.bound.Pairwise (fun m n => Pool.portKey m < Pool.portKey n) ∧ (p.quarantine.map (·.port)).Nodup ∧
  p.quarantine.length ≤ 512 ∧ ∀ q ∈ p.quarantine, q.port ∉ p.bound

/-- R96: HELLO, UP and REFUSED are states with carrier, DOWN is the state without. -/
def PairPort.linkByCarrier (p : PairPort) : Prop :=
  (p.link = .hello ∨ p.link = .up ∨ p.link = .refused → p.carrier = true) ∧ (p.link = .down → p.carrier = false)

/-- R151: standing, for units whose letters are one A (0) and one B (1). -/
def ranksAbove (health priority letter health' priority' letter' : Nat) : Prop :=
  health' < health ∨ health = health' ∧ (priority' < priority ∨ priority = priority' ∧ letter < letter')

/-- R93: what a stand-down within a relation leaves of a slot. -/
def Slot.stoodDown (x : Slot) : Slot := match x.body with
  | .free => x
  | .live r => ⟨x.version, .live { r with marks := ⟨false, false, false⟩ }⟩
  | .doomed r =>
    if r.marks.queued = true ∨ r.marks.dirty = true then ⟨x.version, .free⟩
    else ⟨x.version, .doomed { r with marks := ⟨false, false, false⟩ }⟩

/-! ### Commands -/

/-- R192: the request rows but UNKNOWN_REQUEST, each with the kind, the words of body and the first word of the requests it stands for. -/
def requestRows : List (Instr × Nat × Nat × Option Nat) :=
  [(.insert, 1, 6, none), (.insert, 1, 13, none), (.lookup, 2, 4, none), (.readSlot, 3, 1, none), (.update, 4, 8, none),
    (.touch, 5, 6, none), (.remove, 6, 2, none), (.check, 7, 8, none), (.loopTestInternal, 8, 1, some 0),
    (.loopTestFar, 8, 1, some 1), (.retryPair, 9, 0, none), (.health, 10, 1, none), (.forceActive, 11, 1, some 0),
    (.holdStandby, 11, 1, some 1), (.releaseHold, 11, 1, some 2), (.roleRequestYield, 11, 1, some 3), (.setConfig, 12, 28, none),
    (.start, 13, 0, none), (.readStatus, 14, 0, none), (.readCounters, 15, 0, none), (.softReset, 16, 0, none)]

/-- Whether this command is a request row (assumption 2). -/
def isRequest (c : Instr) : Prop := c = .unknownRequest ∨ ∃ x ∈ requestRows, x.1 = c

/-- R176, R192: whether this request row stands for the request `r`; UNKNOWN_REQUEST stands for those that no other row does. -/
def rowOf (c : Instr) (r : Request) : Prop :=
  let names (x : Instr × Nat × Nat × Option Nat) : Prop :=
    r.kind.toNat = x.2.1 ∧ r.bodyWords = x.2.2.1 ∧ (x.2.2.2 = none ∨ x.2.2.2 = some (r.word 0).toNat)
  (c = .unknownRequest ∧ ∀ x ∈ requestRows, ¬ names x) ∨ ∃ x ∈ requestRows, x.1 = c ∧ names x

/-- R97, R98: whether this command brings a frame that a unit takes while UP. -/
def bringsFrame : Instr → Bool
  | .helloInUp payload => match parseFrame payload with
    | some (.hello _) => true
    | _ => false
  | .beatReceived payload => match parseFrame payload with
    | some (.beat _) => true
    | _ => false
  | .deltaReceived payload => match parseFrame payload with
    | some (.delta _ _) => true
    | _ => false
  | .ackReceived payload => match parseFrame payload with
    | some (.ack _) => true
    | _ => false
  | .probeOutboundReceived payload => match parseFrame payload with
    | some (.probe p) => decide (p.direction = 0)
    | _ => false
  | .probeReturned payload => match parseFrame payload with
    | some (.probe p) => decide (p.direction ≠ 0)
    | _ => false
  | _ => false

namespace State

/-- R2, R80, R92, R96, R109, R163: what stands only while a relation is UP (DOOMED slots, queue entries, frames in flight, a DELTA frame in
progress, the role YIELDING), and the role BOOT, which stands only without one. -/
def relationSound (s : State) : Prop :=
  s.port.linkByCarrier ∧ (s.role = .boot → s.up = false) ∧ (s.role = .yielding → s.up = true) ∧
  (s.up = false → s.dq.entries = [] ∧ s.port.inFlight = [] ∧ s.port.applying = [] ∧ ∀ i, (s.slot i).doomed? = none)

/-- R104, R134, R136: an unplaced YIELD marker stands only in YIELDING, an unplaced SWEEP_BEGIN or SWEEP_END only while the sweep is
SWEEPING, when no frame in flight ends the sweep any more, and a sweep runs only while a relation is UP. -/
def markersSound (s : State) : Prop :=
  (s.port.yieldMarker = true ∨ s.arb.yieldHanded = true → s.role = .yielding) ∧
  (s.port.sweepBegin = true ∨ s.port.sweepEnd = true → s.sweep.state = .sweeping) ∧
  (s.sweep.state = .sweeping → ∀ f ∈ s.port.inFlight, f.endsSweep = false) ∧
  (s.sweep.state ≠ .idle → s.up = true)

/-- R12: no two LIVE records have the same key. -/
def keysUnique (s : State) : Prop :=
  ∀ i j p q, (s.slot i).live? = some p → (s.slot j).live? = some q → p.key = q.key → i = j

/-- R1, R11, R75: outside BOOT every LIVE record stands in its key's bucket, or in a spill slot that names that bucket its home. -/
def recordsPlaced (s : State) : Prop :=
  s.role ≠ .boot → ∀ i r, (s.slot i).live? = some r →
    i / 4 = r.key.bucket s.cfg.seed ∨ (16384 ≤ i ∧ r.home = some (r.key.bucket s.cfg.seed))

/-- R1: the full records of a list, such as a DELTA frame's, that name a main slot name one of their key's bucket, as a peer of the same
geometry writes them (R124). -/
def wellAddressed (s : State) (ds : List Delta) : Prop :=
  ∀ d, .full d ∈ ds → d.slot.toNat < 16384 → d.slot.toNat / 4 = d.key.normalise.bucket s.cfg.seed

/-- R78, R81, R86, R90: a slot has an entry exactly when its queued mark is set, none is both queued and dirty, and each entry's kind fits
its slot, a DELETE a DOOMED one and any other kind a LIVE one. -/
def entriesMarked (s : State) : Prop :=
  (∀ i, (∃ e ∈ s.dq.entries, e.slot = i) ↔
    ∃ r, ((s.slot i).live? = some r ∨ (s.slot i).doomed? = some r) ∧ r.marks.queued = true) ∧
  (∀ i r, (s.slot i).live? = some r ∨ (s.slot i).doomed? = some r → ¬ (r.marks.queued = true ∧ r.marks.dirty = true)) ∧
  ∀ e ∈ s.dq.entries, if e.kind = .delete then (s.slot e.slot).doomed? ≠ none else (s.slot e.slot).live? ≠ none

/-- R61, R74: the pool's cursors lie in the lane region of the geometry it serves, which outside BOOT is the one configured. -/
def geometryHeld (s : State) : Prop :=
  s.pool.staticBlocks ≤ 64 ∧ s.pool.addrCount ≤ 4 ∧ s.cfg.staticBlocks ≤ 64 ∧ s.cfg.addrCount ≤ 4 ∧
  (∀ i : Fin 4, 1024 + 64 * s.pool.staticBlocks ≤ s.pool.cursors[i] ∧ s.pool.cursors[i] ≤ 65535) ∧
  (s.role ≠ .boot → s.pool.addrCount = s.cfg.addrCount ∧ s.pool.staticBlocks = s.cfg.staticBlocks)

/-- R63: the bound ports are the lane-region ports that a LIVE record names, each named by one such record only, and every quarantined port
is a lane-region port. -/
def portsNamed (s : State) : Prop :=
  (∀ n, n ∈ s.pool.bound ↔ s.pool.serves n = true ∧ ∃ i r, (s.slot i).live? = some r ∧ r.nat = some n) ∧
  (∀ n i j p q, s.pool.serves n = true → (s.slot i).live? = some p → (s.slot j).live? = some q → p.nat = some n →
    q.nat = some n → i = j) ∧
  ∀ q ∈ s.pool.quarantine, s.pool.serves q.port = true

/-- R72: an address is disarmed only while its free count is below the threshold. -/
def disarmedBelow (s : State) : Prop :=
  ∀ i : Fin 4, i.val < s.pool.addrCount → s.pool.armed[i] = false → s.freeCount i < s.cfg.poolLow

/-- R166: the peer is preferred: of higher health, or, with preempt set, of the same health and a higher priority. -/
def prefersPeer (s : State) : Prop :=
  s.arb.health < s.arb.peer.health ∨
    (s.cfg.preempt = true ∧ s.arb.peer.health = s.arb.health ∧ s.cfg.priority < s.arb.peer.priority)

/-- R87, R99, R163, R166: nothing that a block sees at once is left unseen. No IDLE catch-up engine has its three conditions, no yield with
an empty queue has its marker still to hand, the health-hold timer runs exactly when it may, and no page, ACK or BEAT waits for an idle
transmitter. -/
def settled (s : State) : Prop :=
  ¬ (s.dq.catchup = false ∧ 0 < s.dirtyCount ∧ s.dq.entries.length < 256 ∧ s.up = true ∧
    (s.role = .active ∨ s.role = .takeover)) ∧
  (s.role = .yielding → s.dq.entries = [] → s.arb.yieldHanded = true) ∧
  (s.arb.healthHold ≠ none ↔ s.role = .active ∧ s.up = true ∧ s.prefersPeer) ∧
  (s.port.tx.sending = none → s.port.tx.hello = [] ∧ s.port.tx.acks = [] ∧ s.port.tx.beat = none)

/-- R139: the role line carries the pattern of the role. -/
def lineFollowsRole (s : State) : Prop := s.driver.pattern = s.role.pattern

/-- R25, R60, R77, R95, R118, R137, R148, R172, R183, R190: the values every block takes at power-on and at the hard reset pin. -/
def atPowerOnValues (s : State) : Prop :=
  (∀ i, s.slot i = ⟨0, .free⟩) ∧
  s.aging.msCount = 0 ∧ s.aging.ticks = 0 ∧ s.aging.position = 0 ∧
  s.pool.addrCount = 1 ∧ s.pool.staticBlocks = 4 ∧
  (∀ n : NatPart, s.pool.condition n = .free) ∧ s.pool.cursors = #v[1280, 1280, 1280, 1280] ∧
  s.pool.armed = #v[true, true, true, true] ∧ s.pool.laneMode = .own ∧
  s.dq = ⟨[], false, 0⟩ ∧
  s.port.link = .down ∧ s.port.nextSeq = 0 ∧ s.port.expected = 0 ∧ s.port.inFlight = [] ∧ s.port.heartbeat = none ∧
  s.port.silence = none ∧ s.port.applying = [] ∧ s.port.lastEnd = .none ∧
  s.hello.exchange = 0 ∧ s.hello.ownPage = 1 ∧ s.hello.toggle = false ∧ s.hello.taken = 0 ∧ s.hello.ackToggle = true ∧
  s.hello.comply = true ∧ s.hello.peerIdentity = none ∧ s.hello.refusal = none ∧
  s.sweep.state = .idle ∧ s.sweep.cursor = 0 ∧
  s.driver.pattern = none ∧ s.driver.level = false ∧ s.monitor.cls = .silent ∧ s.monitor.alignment = .unaligned s.clock ∧
  s.monitor.edgeSeen = false ∧ s.monitor.samples = [] ∧ s.monitor.matchCount = 0 ∧ s.monitor.missRun = 0 ∧
  s.monitor.lastRise = some s.clock ∧
  s.arb.role = .boot ∧ s.arb.health = 7 ∧ s.arb.hold = false ∧ s.arb.epoch = 0 ∧ s.arb.takeoverTick = 0 ∧
  s.arb.listen = none ∧ s.arb.healthHold = none ∧ s.arb.yieldTimer = none ∧ s.arb.yieldTaken = false ∧
  s.arb.peer = ⟨none, 0, 0, 0, 0, .idle, false, false⟩ ∧
  s.req.assembling = none ∧ s.req.queue = [] ∧ s.req.running = none ∧ s.req.completions = [] ∧ s.req.readPos = 0 ∧
  s.req.latch = 0 ∧ s.req.enable = 0 ∧ s.intN = true ∧ s.req.counters = ⟨0, 0, 0, 0, 0, 0, 0, 0⟩ ∧ s.req.drops = 0 ∧
  s.cfg = {
    tickInterval := 100, heartbeat := 1, beatsLost := 3, listenPeriod := 30, grace := 600, healthHold := 50
    yieldTimeout := 20, priority := 8, preempt := false, timeouts := #v[36000, 300, 1200, 1800, 300, 600, 600, 600]
    slackFloor := 65536, slackCeiling := 16777216, addrCount := 1, addrs := #v[0, 0, 0, 0], staticBlocks := 4
    quarantineHold := 1200, poolLow := 256, seed := 0 }

/-! ### The words of claims -/

/-- R109, R112: this command, or none, finishes the DELTA frame that is in progress in `s`: a frame received while UP is taken after it
(assumption 48). -/
def finishesFrame (s : State) (front : Option Instr) : Prop :=
  s.port.applying ≠ [] ∧ ∃ c, front = some c ∧ bringsFrame c = true

/-- R176, R192: the executor can begin the request `r`, of this kind and with this many body words. -/
def canBegin (s : State) (r : Request) (kind words : Nat) : Prop :=
  s.resetLow = false ∧ s.req.running = none ∧ s.req.completions.length < 64 ∧ s.req.queue.head? = some r ∧
  r.kind.toNat = kind ∧ r.bodyWords = words

/-- R177: `t` has the completion of `r`, and `r` has left the request queue. -/
def completed (s t : State) (r : Request) (status : Status) (result : List Word) : Prop :=
  t.req.queue = s.req.queue.tail ∧ t.req.completions = s.req.completions ++ [⟨r.kind, status, r.tag, result⟩] ∧
  t.latched .completionReady = true

/-- The Request Port after a request that only posts its completion. -/
def answered (s : State) (r : Request) (status : Status) (result : List Word) : State :=
  { s with req := { s.req with
      queue := s.req.queue.tail
      completions := s.req.completions ++ [⟨r.kind, status, r.tag, result⟩]
      latch := s.req.latch ||| Event.completionReady.mask } }

/-- `s` with, from `t`, what may follow at once from any step: a catch-up pass starting (R87), the YIELD marker handed over (R163), the
health-hold timer starting or stopping (R166), a BEAT put (R101), and an idle transmitter beginning (R99). -/
def followedBy (s t : State) : State :=
  { s with
    dq := { s.dq with catchup := t.dq.catchup, catchupCursor := t.dq.catchupCursor }
    port := { s.port with yieldMarker := t.port.yieldMarker, heartbeat := t.port.heartbeat, tx := t.port.tx }
    arb := { s.arb with yieldHanded := t.arb.yieldHanded, healthHold := t.arb.healthHold } }

/-- R113: what waited for the transmitter in `s` has been dropped in `t`, and a frame in transmission is sent whole. What waits now are
pages of a new hello exchange. -/
def waitingDropped (s t : State) : Prop :=
  t.port.tx = { Transmitter.initial with sending := t.port.tx.sending, hello := t.port.tx.hello } ∧
  (∀ p ∈ t.port.tx.hello, p.exchange ≠ s.hello.exchange) ∧
  (s.port.tx.sending ≠ none → t.port.tx.sending = s.port.tx.sending) ∧
  (s.port.tx.sending = none → ∀ f, t.port.tx.sending = some f → ∃ p, f = .hello p ∧ p.exchange ≠ s.hello.exchange)

/-- R113, R116: a FAR loop test that ran in `s` has completed in `t` with its counts, and an INTERNAL one runs on. -/
def farTestCompleted (s t : State) : Prop :=
  (∀ u, s.req.running = some u → u.far = true → t.req.running = none ∧
    t.req.completions = s.req.completions ++ [⟨8, .ok, u.tag, [numWord u.sent, numWord u.counted.length]⟩] ∧
    t.latched .completionReady = true) ∧
  ((∀ u, s.req.running = some u → u.far = false) →
    t.req.running = s.req.running ∧ t.req.completions = s.req.completions)

/-- R162, R165: the role a unit of the active side has once its relation has ended: a YIELDING one goes ACTIVE, and a unit B that reads its
peer ACTIVE on the line goes ISOLATED. -/
def roleAfterEnd (s : State) : Role :=
  if s.monitor.cls = .active ∧ s.letter = .b then .isolated
  else if s.role = .yielding then .active
  else s.role

/-- R92, R104, R113, R136, R162, R165: a relation that was UP in `s` has ended in `t`, for this reason. -/
def relationEndedIn (s t : State) (reason : EndReason) : Prop :=
  s.waitingDropped t ∧ s.farTestCompleted t ∧
  (s.role = .active ∨ s.role = .takeover ∨ s.role = .yielding →
    t.role = s.roleAfterEnd ∧ t.arb.yieldTimer = (if s.role = t.role then s.arb.yieldTimer else none) ∧
    t.arb.epoch = s.arb.epoch ∧ t.latched .yieldFailed = s.latched .yieldFailed ∧
    (t.role = .isolated → t.latched .splitResolved = true)) ∧
  t.port.inFlight = [] ∧ t.port.heartbeat = none ∧ t.port.silence = none ∧ t.port.lastEnd = reason ∧
  t.port.sweepBegin = false ∧ t.port.sweepEnd = false ∧ t.port.yieldMarker = false ∧
  t.latched .relationEnded = true ∧
  t.req.counters.relationsEnded = min 65535 (s.req.counters.relationsEnded + 1) ∧
  t.dq.entries = [] ∧ t.dq.catchup = false ∧ t.sweep = { s.sweep with state := .idle } ∧
  ∀ i, t.slot i = match (s.slot i).body with
    | .free => s.slot i
    | .live r => ⟨(s.slot i).version, .live { r with marks := ⟨false, false, false⟩ }⟩
    | .doomed _ => ⟨(s.slot i).version, .free⟩

/-- R101: the BEAT of the values of `t`, with this live count. -/
def beatOf (t : State) (live : Nat) : Beat :=
  ⟨t.role, BitVec.ofNat 3 t.arb.health, BitVec.ofNat 4 t.cfg.priority, decide (t.letter = .b), decide (0 < t.dirtyCount),
    t.arb.hold, t.sweep.state, BitVec.ofNat 16 live⟩

/-- R101: this BEAT waits for the transmitter in `t` or is in transmission, and the heartbeat timer has restarted. -/
def beatWaits (t : State) (b : Beat) : Prop :=
  (t.port.tx.beat = some b ∨ t.port.tx.sending = some (.beat b)) ∧ t.port.heartbeat = some 0

/-- R101: a BEAT of the values of `t` as they are left has been put to the transmitter. -/
def beatPut (t : State) : Prop := t.beatWaits (t.beatOf t.liveCount)

/-- R101: what a BEAT is put for when it changes. -/
def beatMatters (s : State) : Role × Nat × Bool × SweepState × Bool :=
  (s.role, s.arb.health, s.arb.hold, s.sweep.state, decide (0 < s.dirtyCount))

/-- A hello page was put to the transmitter last of those waiting, and may already be in transmission. -/
def pageSent (t : State) (p : HelloPage) : Prop := t.port.tx.hello.getLast? = some p ∨ t.port.tx.sending = some (.hello p)

/-- R119: between `s` and `t` the hello exchange has begun at page 1, which was sent at once. -/
def exchangeBegun (s t : State) : Prop :=
  t.hello = { s.hello with
    ownPage := 1, toggle := false, taken := 0, ackToggle := true, exchange := s.hello.exchange + 1, comply := true
    peerIdentity := none, helloSince := t.clock, pacingSince := t.clock, sentIdentity := some t.identity } ∧
  t.pageSent ⟨false, true, true, true, s.hello.exchange + 1, s.hello.ackExchange, .identity t.identity⟩

/-- R123, R149: a role change while the link state is HELLO has restarted the exchange, once; without one it stands as it was. -/
def exchangeFollows (s t : State) : Prop :=
  (t.role ≠ s.role ∧ s.port.link = .hello → s.exchangeBegun t) ∧ (t.role = s.role ∨ s.port.link ≠ .hello → t.hello = s.hello)

/-- R113, R119: the exchange has begun again after a relation end in which this port kept its carrier, under a new number, outside BOOT
(assumption 25 for a role that changes with it). -/
def exchangeRestarted (s t : State) : Prop :=
  (s.port.carrier = true ∧ s.role ≠ .boot → t.hello.exchange ≠ s.hello.exchange ∧
    { s with hello := { s.hello with exchange := t.hello.exchange - 1 } }.exchangeBegun t) ∧
  (s.port.carrier = false ∨ s.role = .boot → t.hello = s.hello)

/-- What a change of role may change of `s`, from `t`: the role, the yield's own state, a restarted hello exchange, the line driver, and
the latch (R149), with what may follow at once. -/
def roleMoved (s t : State) : State :=
  { s.followedBy t with
    arb := { (s.followedBy t).arb with role := t.arb.role, yieldTimer := t.arb.yieldTimer }
    hello := t.hello
    driver := t.driver
    req := { s.req with latch := t.req.latch } }

/-- R101, R149: a role change latches ROLE_CHANGED, sets the driver's pattern, and while UP puts a BEAT of the values as left; without one
nothing of the three has happened on the role's account. R139: a change that keeps the pattern leaves the driver as it was, in the middle
of a repetition too. R104, R163, R165: the yield timer starts with YIELDING, and ends with it, as an unplaced marker does. -/
def roleChangeTaken (s t : State) : Prop :=
  (t.role ≠ s.role → t.latched .roleChanged = true ∧ t.driver.pattern = t.role.pattern ∧ (t.up = true → t.beatPut) ∧
    t.arb.yieldTimer = (if t.role = .yielding then some 0 else none) ∧
    (t.role ≠ .yielding → t.port.yieldMarker = false ∧ t.arb.yieldHanded = false)) ∧
  (t.role = s.role → t.latched .roleChanged = s.latched .roleChanged ∧ t.driver = s.driver ∧
    t.arb.yieldTimer = s.arb.yieldTimer) ∧
  (s.lineFollowsRole → t.driver.pattern = s.driver.pattern → t.driver = s.driver)

/-- No event but these has been latched between `s` and `t`, and none has been cleared. -/
def latchedOnly (s t : State) (events : List Event) : Prop := ∀ e : Event, e ∉ events → t.latched e = s.latched e

/-- R72: between `s` and `t` each address the pool serves has been evaluated, once, if `every` says so, if its free count changed or if the
lane mode did: armed and below the threshold disarms it and latches POOL_LOW, disarmed and not below re-arms it. No other flag has moved,
and nothing else has latched POOL_LOW. -/
def poolLowFollows (s t : State) (every : Bool) : Prop :=
  (∀ i : Fin 4, t.pool.armed[i] =
    if i.val < t.pool.addrCount ∧ (every = true ∨ t.freeCount i ≠ s.freeCount i ∨ t.pool.laneMode ≠ s.pool.laneMode) then
      decide (t.cfg.poolLow ≤ t.freeCount i)
    else s.pool.armed[i]) ∧
  (t.latched .poolLow = true ↔
    s.latched .poolLow = true ∨ ∃ i : Fin 4, s.pool.armed[i] = true ∧ t.pool.armed[i] = false)

/-- R156: PARTIAL_TAKEOVER is latched for a unit that was JOINING or ISOLATED or whose peer was last seen lagging, and else stays as it
was. -/
def partialFollows (s t : State) (lagging : Bool) : Prop :=
  t.latched .partialTakeover = true ↔
    s.latched .partialTakeover = true ∨ s.role = .joining ∨ s.role = .isolated ∨ lagging = true

/-- R157: `t` is the part after a takeover entry from `s`. -/
def tookOver (s t : State) (byMarker : Bool) : Prop :=
  t.arb = { s.arb with
    role := .takeover, epoch := s.arb.epoch + 1, takeoverTick := s.now, grace := s.cfg.grace, yieldTaken := byMarker
    listen := none, healthHold := none, yieldTimer := none, yieldHanded := false } ∧
  t.pool.laneMode = .own ∧ t.latched .roleChanged = true ∧ t.driver.pattern = some .active ∧ (t.up = true → t.beatPut) ∧
  s.partialFollows t s.arb.peer.lagging ∧ s.poolLowFollows t false

/-- R155 to R157: between `s` and `t` the peer-loss decision has been made on this line class by a unit in STANDBY, JOINING or ISOLATED.
But at a takeover entry it moves nothing of the arbiter but the role and the listen timer. -/
def peerLossDecided (s t : State) (cls : LineClass) : Prop :=
  let stays : Prop := t.arb = { (s.roleMoved t).arb with listen := t.arb.listen } ∧ t.pool.laneMode = s.pool.laneMode
  (cls = .active → t.role = .isolated ∧ t.arb.listen.map (·.1) ≠ some .stagger ∧ stays) ∧
  (cls ≠ .active → s.arb.hold = true → t.role = s.role ∧ t.arb.listen.map (·.1) ≠ some .stagger ∧ stays) ∧
  (s.arb.hold = false → cls = .silent ∨ (cls ≠ .active ∧ s.letter = .a) → s.tookOver t false) ∧
  (s.arb.hold = false → cls ≠ .active → cls ≠ .silent → s.letter = .b → t.role = s.role ∧ stays ∧
    (s.arb.listen.map (·.1) = some .stagger → t.arb.listen = s.arb.listen) ∧
    (s.arb.listen.map (·.1) ≠ some .stagger → t.arb.listen = some (.stagger, 0)))

/-- R92, R104, R113, R114, R136, R159: what the end of a relation leaves alone between `s` and `t`, and what it may move besides what
`relationEndedIn` gives. A unit that makes no peer-loss decision keeps its lane mode, and of its arbiter all but the role; in ISOLATED no
stagger runs. -/
def relationGone (s t : State) : Prop :=
  s.roleChangeTaken t ∧ s.poolLowFollows t false ∧
  s.latchedOnly t [.relationEnded, .completionReady, .roleChanged, .splitResolved, .partialTakeover, .incompatible, .poolLow] ∧
  (s.role ≠ .standby → s.role ≠ .joining → s.role ≠ .isolated →
    t.arb = { (s.roleMoved t).arb with listen := t.arb.listen } ∧ t.pool.laneMode = s.pool.laneMode ∧
    (t.arb.listen = s.arb.listen ∨ (t.role = .isolated ∧ s.arb.listen.map (·.1) = some .stagger ∧ t.arb.listen = none))) ∧
  t = { s.roleMoved t with
    clock := t.clock
    due := t.due
    table := t.table
    dq := { (s.roleMoved t).dq with entries := [] }
    port := { (s.roleMoved t).port with
      carrier := t.port.carrier
      link := t.port.link
      inFlight := []
      applying := []
      silence := none
      lastEnd := t.port.lastEnd
      sweepBegin := false
      sweepEnd := false }
    sweep := { s.sweep with state := .idle }
    arb := t.arb
    pool := { s.pool with laneMode := t.pool.laneMode, armed := t.pool.armed }
    req := { s.req with
      running := t.req.running
      completions := t.req.completions
      latch := t.req.latch
      counters := { s.req.counters with relationsEnded := t.req.counters.relationsEnded } } }

/-- R145, R162: whether the line class of `t` moves the role of `s`: it is a new class, no relation is UP, and the unit makes the peer-loss
decision, or is a unit B of the active side that reads ACTIVE. -/
def classMovesRole (s t : State) : Prop :=
  t.monitor.cls ≠ s.monitor.cls ∧ s.up = false ∧
  (s.role = .standby ∨ s.role = .joining ∨ s.role = .isolated ∨
    ((s.role = .active ∨ s.role = .takeover) ∧ t.monitor.cls = .active ∧ s.letter = .b))

/-- R145, R146, R155, R162: between `s` and `t` the monitor has taken a reading at the reference-clock time `c`. A change of class latches
LINE_FAULT while UP if it is to SILENT or GARBLED; one that moves the role is decided on; any other changes nothing else. -/
def readingTaken (s t : State) (c : Nat) : Prop :=
  t.latched .lineFault = (s.latched .lineFault || (s.up && decide (t.monitor.cls ≠ s.monitor.cls) &&
    decide (t.monitor.cls = .silent ∨ t.monitor.cls = .garbled))) ∧
  (¬ s.classMovesRole t → s.latchedOnly t [.lineFault] ∧ t = { s.followedBy t with
    clock := c
    monitor := t.monitor
    req := { s.req with latch := t.req.latch, counters := t.req.counters } }) ∧
  (s.classMovesRole t →
    (s.role = .active ∨ s.role = .takeover →
      t.role = .isolated ∧ t.latched .splitResolved = true ∧ t.arb = (s.roleMoved t).arb ∧ t.pool.laneMode = s.pool.laneMode) ∧
    (s.role = .standby ∨ s.role = .joining ∨ s.role = .isolated → s.peerLossDecided t t.monitor.cls) ∧
    s.roleChangeTaken t ∧ s.exchangeFollows t ∧ s.poolLowFollows t false ∧
    s.latchedOnly t [.roleChanged, .splitResolved, .partialTakeover, .poolLow] ∧
    t = { s.roleMoved t with
      clock := c
      monitor := t.monitor
      arb := t.arb
      pool := { s.pool with laneMode := t.pool.laneMode, armed := t.pool.armed }
      req := { s.req with latch := t.req.latch, counters := t.req.counters } })

/-- R99: what waits behind a frame in transmission in `s` waits in `t` too, at this command and on an unchanged link: pages and a BEAT are
only put, and each other kind changes by its own commands only. That a page of the old exchange is kept when the exchange restarts in HELLO
is the model's choice (assumption 50). -/
def waitingKept (s t : State) (front : Option Instr) : Prop :=
  let x := s.port.tx
  let y := t.port.tx
  y.sending = x.sending ∧ x.hello <+: y.hello ∧ (y.beat = x.beat ∨ ∃ b, y.beat = some b ∧ t.port.heartbeat = some 0) ∧
  ((∀ payload, front ≠ some (.deltaReceived payload)) → s.port.applying = [] ∨ (front ≠ none ∧ ¬ s.finishesFrame front) →
    y.acks = x.acks) ∧
  ((∀ payload, front ≠ some (.ackReceived payload)) → (∀ phase, front ≠ some (.retransmitTimeout phase)) →
    front ≠ some .frameBuild → y.resend = x.resend ∧ y.fresh = x.fresh) ∧
  ((∀ payload, front ≠ some (.probeOutboundReceived payload)) → y.returned = x.returned) ∧
  (front ≠ some .loopTestFar → (∀ payload, front ≠ some (.probeReturned payload)) →
    (∀ phase, front ≠ some (.loopTestTimeout phase)) → y.outbound = x.outbound)

/-- R87 to R89, R99, R101, R163, R166: what `followedBy` leaves to a step from `s` to `t`. A pass starts at slot 0, and its cursor moves by
a visit only; it ends by a visit, with the relation, or with the role. The health-hold timer starts at 0 and counts at ticks only. While UP
a change of what a BEAT is put for puts one of the values as left, and the heartbeat timer restarts with a BEAT only. The YIELD marker is
handed in YIELDING with an empty queue, and is taken by a frame or by the end of the yield. A frame in transmission stays until its end,
and what waits behind it stays while the link does. -/
def followsUp (s t : State) : Prop :=
  let front := s.pending.head?
  let counts : Prop := front = some .millisecond ∨ front = some .tick
  let resets : Prop := front = some .hardReset ∨ ∃ b, front = some (.powerOn b) ∨ front = some (.resetRelease b)
  let receives : Prop := s.finishesFrame front
  (s.dq.catchup = false → t.dq.catchup = true → t.dq.catchupCursor = 0) ∧
  (s.dq.catchup = true → t.dq.catchup = true → front ≠ some .catchupVisit → t.dq.catchupCursor = s.dq.catchupCursor) ∧
  (s.dq.catchup = true → t.dq.catchup = false → front ≠ some .catchupVisit → ¬ receives → t.up = false ∨ t.role = .joining) ∧
  (∀ n, s.arb.healthHold = none → t.arb.healthHold = some n → n = 0) ∧
  (∀ m n, s.settled → s.arb.healthHold = some m → t.arb.healthHold = some n → ¬ counts → n = m) ∧
  (s.up = true → t.up = true → s.beatMatters ≠ t.beatMatters →
    ∃ live, t.beatWaits (t.beatOf live) ∧ (¬ receives → live = t.liveCount)) ∧
  (¬ counts → t.port.heartbeat = s.port.heartbeat ∨ (t.up = false ∧ t.port.heartbeat = none) ∨ ∃ b, t.beatWaits b) ∧
  (s.port.yieldMarker = false → t.port.yieldMarker = true → t.role = .yielding ∧ t.dq.entries = []) ∧
  (s.role = .yielding → s.port.yieldMarker = true → t.port.yieldMarker = false →
    front = some .frameBuild ∨ t.role ≠ .yielding) ∧
  (s.port.tx.sending ≠ none → ¬ resets → (∀ phase, front ≠ some (.transmitDone phase)) →
    t.port.tx.sending = s.port.tx.sending ∧
    (t.port.link = s.port.link → t.port.link ≠ .down → front ≠ some .softReset → front ≠ some .loopTestInternal →
      s.waitingKept t front))

/-- R126, R155, R162: between `s` and `t` the link has gone from HELLO to REFUSED, with this refusal latched. The arbiter has decided in
the same step as after a relation end: the peer-loss decision of a unit in STANDBY, JOINING or ISOLATED, the line rule of one on the active
side. -/
def refusedIn (s t : State) (refusal : RefusalReason) : Prop :=
  t.port.link = .refused ∧ t.hello.refusal = some refusal ∧ t.latched .incompatible = true ∧
  (s.role = .standby ∨ s.role = .joining ∨ s.role = .isolated → s.peerLossDecided t s.monitor.cls) ∧
  (s.role = .active ∨ s.role = .takeover ∨ s.role = .yielding →
    t.role = s.roleAfterEnd ∧ t.arb = (s.roleMoved t).arb ∧ t.pool.laneMode = s.pool.laneMode ∧
    (t.latched .splitResolved = true ↔ s.latched .splitResolved = true ∨ t.role = .isolated)) ∧
  (s.role = .listen → t.role = .listen ∧ t.arb = (s.followedBy t).arb ∧ t.pool = s.pool) ∧
  s.roleChangeTaken t ∧ s.poolLowFollows t false ∧
  s.latchedOnly t [.incompatible, .roleChanged, .splitResolved, .partialTakeover, .poolLow] ∧
  t = { s.roleMoved t with
    arb := t.arb
    port := { (s.roleMoved t).port with link := .refused }
    pool := { s.pool with laneMode := t.pool.laneMode, armed := t.pool.armed } }

/-- R115, R116, R194: the outbound probes 0 to 63 wait in `t` in order, or 1 to 63 wait and probe 0 is in transmission. -/
def probesPut (t : State) : Prop :=
  let probe (n : Nat) : Probe := ⟨BitVec.ofNat 8 n, 0, (List.range 32).map (fun j => BitVec.ofNat 8 (n * 4 + j))⟩
  let probes := (List.range 64).map probe
  t.port.tx.outbound = probes ∨
    (t.port.tx.outbound = probes.tail ∧ t.port.tx.sending = some (.probe (probe 0)))

/-- An ACK with this value was put to the transmitter last of those waiting, and may already be in transmission. -/
def ackSent (t : State) (n : Byte) : Prop := t.port.tx.acks.getLast? = some n ∨ t.port.tx.sending = some (.ack n)

/-- R63, R67: what a binding and a release change: the bound ports, the quarantine list and the count QUARANTINE_EARLY. -/
def ports (s : State) : List NatPart × List Quarantined × Nat :=
  (s.pool.bound, s.pool.quarantine, s.req.counters.quarantineEarly)

/-- R67: these once the port of `nat` is released, if it is a bound lane-region port: it goes to quarantine, or to free with a hold of 0.
One that a full quarantine list gives up early is counted. -/
def afterRelease (s : State) (nat : Option NatPart) : List NatPart × List Quarantined × Nat → List NatPart × List Quarantined × Nat
  | (bound, held, early) => match nat with
    | none => (bound, held, early)
    | some n =>
      if n ∉ bound then (bound, held, early)
      else if s.cfg.quarantineHold = 0 then (bound.erase n, held, early)
      else (bound.erase n, (if held.length < 512 then held else held.tail) ++ [⟨n, s.now⟩],
        if held.length < 512 then early else min 65535 (early + 1))

/-- R69: these once the port of `nat` is bound, if it is a lane-region port of an address the pool serves, whatever its condition. -/
def afterBinding (s : State) (nat : Option NatPart) : List NatPart × List Quarantined × Nat → List NatPart × List Quarantined × Nat
  | (bound, held, early) => match nat with
    | none => (bound, held, early)
    | some n =>
      if s.pool.serves n then (Pool.insertPort n bound, held.filter (fun q => decide (q.port ≠ n)), early)
      else (bound, held, early)

/-- R67: the port of `nat` has been released between `s` and `t`, if it was a bound lane-region port, and no other. -/
def portReleased (s t : State) (nat : Option NatPart) : Prop := t.ports = s.afterRelease nat s.ports

/-- R22, R23, R67, R69: the ports between `s` and `t` once a full record that names the port `nat`, with the key `k`, has been written into
slot `i`. The other LIVE record of the key gives up its port, then another that names `nat` gives up that, which is then bound, and at last
the record that stood in the slot gives up its own, if it is another. -/
def portsRewritten (s t : State) (i : Nat) (k : Key) (nat : Option NatPart) : Prop :=
  ∀ ofKey ofPort old : Option NatPart,
    (∃ j r, j ≠ i ∧ (s.slot j).live? = some r ∧ r.key = k ∧ ofKey = r.nat) ∨
      (ofKey = none ∧ ∀ j r, j ≠ i → (s.slot j).live? = some r → r.key ≠ k) →
    (ofPort = nat ∧ ∃ n j r, nat = some n ∧ s.pool.serves n = true ∧ j ≠ i ∧ (s.slot j).live? = some r ∧ r.key ≠ k ∧
        r.nat = some n) ∨
      (ofPort = none ∧ ∀ n j r, nat = some n → s.pool.serves n = true → j ≠ i → (s.slot j).live? = some r → r.key ≠ k →
        r.nat ≠ some n) →
    old = (match (s.slot i).live? with
      | some r => if r.nat = nat then none else r.nat
      | none => none) →
    t.ports = s.afterRelease old (s.afterBinding nat (s.afterRelease ofPort (s.afterRelease ofKey s.ports)))

/-- R82, R83, R85: the delta queue once a DELETE is offered for slot `i` while offers are taken. -/
def entriesAfterDelete (s : State) (i : Nat) : List Entry := match s.entryKind i with
  | some .create => s.dq.entries.filter (fun e => decide (e.slot ≠ i))
  | some _ => s.dq.entries.map (fun e => if e.slot = i then ⟨i, .delete⟩ else e)
  | none => if s.dq.entries.length < 1024 then s.dq.entries ++ [⟨i, .delete⟩] else s.dq.entries

/-- R82, R85: the delta queue once a CHANGE is offered for slot `i` while offers are taken. -/
def entriesAfterChange (s : State) (i : Nat) : List Entry := match s.entryKind i with
  | some .refresh => s.dq.entries.map (fun e => if e.slot = i then ⟨i, .change⟩ else e)
  | some k => s.dq.entries.map (fun e => if e.slot = i then ⟨i, k⟩ else e)
  | none => if s.dq.entries.length < 1024 then s.dq.entries ++ [⟨i, .change⟩] else s.dq.entries

/-- R81, R85: the marks of slot `i` once a DELETE or a CHANGE is offered for it. -/
def marksAfterOffer (s : State) (i : Nat) (m : Marks) : Marks := match s.entryKind i with
  | some _ => m
  | none => if s.dq.entries.length < 1024 then ⟨true, false, m.owed⟩ else ⟨m.queued, true, m.owed⟩

/-- R82, R83, R85: what an offer for slot `i` has counted and latched between `s` and `t`: a merge, or a cancellation, counts in
DELTAS_COALESCED; at a full queue a slot with no entry that is not dirty yet counts in OVERFLOW_MARKS and latches QUEUE_OVERFLOW. -/
def offerCounted (s t : State) (i : Nat) : Prop :=
  t.req.counters.deltasCoalesced =
    (if s.up = true ∧ s.entryKind i ≠ none then min 65535 (s.req.counters.deltasCoalesced + 1)
      else s.req.counters.deltasCoalesced) ∧
  t.req.counters.overflowMarks =
    (if s.up = true ∧ s.entryKind i = none ∧ 1024 ≤ s.dq.entries.length ∧ s.dirtyAt i = false then
        min 65535 (s.req.counters.overflowMarks + 1)
      else s.req.counters.overflowMarks) ∧
  (t.latched .queueOverflow = true ↔ s.latched .queueOverflow = true ∨
    (s.up = true ∧ s.entryKind i = none ∧ 1024 ≤ s.dq.entries.length ∧ s.dirtyAt i = false))

/-- R19, R55: between `s` and `t` the session of slot `i` has ended, its record as kept by a DOOMED slot being `r`. -/
def sessionEnded (s t : State) (i : Nat) (r : Record) : Prop :=
  (∀ j, j ≠ i → t.slot j = s.slot j) ∧
  t.slot i = ⟨(s.slot i).version + 1,
    if s.up = true ∧ s.entryKind i ≠ some .create then .doomed { r with marks := s.marksAfterOffer i r.marks } else .free⟩ ∧
  t.dq.entries = (if s.up then s.entriesAfterDelete i else s.dq.entries) ∧
  s.offerCounted t i ∧ s.portReleased t r.nat

/-- R59, R90: the record of this kind built from slot `i`, whose record is `r`. The value that is sent for a deadline more than 65,535
ticks ahead by the signed reading is free (assumption 43). -/
def fullOf (s : State) (kind : FullKind) (i : Nat) (r : Record) : Delta := .full {
  kind := kind, slot := BitVec.ofNat 16 i, version := (s.slot i).version, key := r.key, cls := r.cls, pinned := r.pinned
  remaining :=
    if (r.deadline - s.now).toInt < 0 then 0
    else if (r.deadline - s.now).toInt ≤ 65535 then (r.deadline - s.now).setWidth 16
    else Config.remainingBeyond r.deadline s.now
  rate := r.rate, nat := r.nat, tcp := r.tcp }

/-- R90: the delta record of a queue entry, from its slot as it stands; none where R90 lists no case. -/
def entryDelta (s : State) (e : Entry) : Option Delta := match e.kind, (s.slot e.slot).body with
  | .create, .live r => some (s.fullOf .create e.slot r)
  | .change, .live r => some (s.fullOf .change e.slot r)
  | .refresh, .live r => some (s.fullOf .refresh e.slot r)
  | .delete, .doomed r => some (.delete (BitVec.ofNat 16 e.slot) (s.slot e.slot).version r.key)
  | _, _ => none

/-- R124: a peer's page agrees with this side's own values. -/
def pageAgrees (s : State) : PageContent → Prop
  | .identity p => p.letter ≠ (if s.letter = .a then 0 else 1)
  | .geometry slots buckets seed => slots.toNat = 16896 ∧ buckets.toNat = 4096 ∧ seed = s.cfg.seed
  | .nat count blocks a0 a1 a2 a3 =>
    count.toNat = s.cfg.addrCount ∧ blocks.toNat = s.cfg.staticBlocks ∧
    ∀ i : Fin 4, i.val < s.cfg.addrCount → #v[a0, a1, a2, a3][i] = s.cfg.addrs[i]
  | .timers interval => interval.toNat = s.cfg.tickInterval

/-- R130: a sweep has started in `t`. -/
def sweepStarted (t : State) : Prop :=
  t.sweep.state = .sweeping ∧ t.sweep.cursor = 0 ∧ t.port.sweepBegin = true ∧ t.port.sweepEnd = false ∧ t.pool.laneMode = .own

/-- R10, R12: slot `i` holds the one LIVE record with the normalised key `k`, where lookup by key finds it. -/
def findable (s : State) (k : Key) (i : Nat) (r : Record) : Prop :=
  i < 16896 ∧ (s.slot i).live? = some r ∧ r.key = k ∧
  (i / 4 = k.bucket s.cfg.seed ∨ (16384 ≤ i ∧ r.home = some (k.bucket s.cfg.seed))) ∧
  ∀ j q, (s.slot j).live? = some q → q.key = k → j = i

/-- No LIVE record has the normalised key `k`. -/
def absent (s : State) (k : Key) : Prop := ∀ j q, (s.slot j).live? = some q → q.key ≠ k

/-- R11: the slot INSERT chooses in bucket `b`. -/
def chosenFor (s : State) (b i : Nat) : Prop :=
  let free (j : Nat) : Prop := (s.slot j).body = .free
  (∃ w < 4, i = 4 * b + w ∧ free i ∧ ∀ v < w, ¬ free (4 * b + v)) ∨
  ((∀ w < 4, ¬ free (4 * b + w)) ∧ 16384 ≤ i ∧ i < 16896 ∧ free i ∧ ∀ j, 16384 ≤ j → j < i → ¬ free j)

end State

end Sys2Proof.Machine
end

