-- ==== Sys2Proof/Certificates/Slice0/Obligations.lean ====
section
/-! DEFINITION. The claims about the Pelfor 2140, for the provers. `OBLIGATIONS.json` gives each its title and its rules. -/

open Sys2Proof Sys2Proof.Machine

/-! ### The machine as a whole -/

/-- The step executes the command at the front of the queue on the state with the rest of the queue. With no command waiting it changes
nothing, but for a DELTA frame in progress. R109: a frame received while UP is taken after the records of a DELTA frame in progress. That
those are then applied in steps which no command takes is the model's choice, and that every other command may come between them its
reading (assumptions 12 and 48). -/
def Obligations.StepRunsTheFrontCommand : Prop :=
  ∀ s : State,
    (∀ c rest, s.pending = c :: rest → step s = exec c (s.withPending rest)) ∧
    (s.pending = [] → s.port.applying = [] → step s = .next s) ∧
    (∀ c u, s.resetLow = false → s.up = true → s.finishesFrame (some c) → step (s.withPending []) = .next u →
      exec c s = exec c (u.withPending s.pending))

/-- Every command answers a next state, and no command touches the commands that wait behind it. R176: a request row changes nothing while
the executor holds LOOP_TEST, while 64 completions wait, and while the head of the request queue is no request of that row, if there is one
at all. That an event whose condition does not hold changes nothing is the model's choice (assumption 6), as is what a request row stands
for (assumption 2). -/
def Obligations.EveryCommandAnswers : Prop :=
  ∀ (c : Instr) (s : State), (∃ t, exec c s = .next t ∧ t.pending = s.pending) ∧
    (isRequest c → s.req.running ≠ none ∨ 64 ≤ s.req.completions.length ∨
        (∀ r, s.req.queue.head? = some r → ¬ rowOf c r) →
      exec c s = .next s)

/-- The Session Table keeps its canonical form: slots strictly rising, below 16,896, none listed that reads as blank (R1; the form is the
model's own). No two LIVE records have the same key, and outside BOOT each stands where lookup finds it (R12, R23), which a DELTA frame
keeps whose records name slots of their keys' buckets, as does one in progress. That supersession by key finds a record outside its bucket
too is the model's reading (assumption 47). -/
def Obligations.TableStaysCanonical : Prop :=
  ∀ s t : State, tableWf s.table = true → step s = .next t → tableWf t.table = true ∧
    (s.relationSound → s.keysUnique → s.recordsPlaced → t.keysUnique ∧
      (s.wellAddressed s.port.applying →
        (∀ payload rest seq ds, s.pending = .deltaReceived payload :: rest → parseFrame payload = some (.delta seq ds) →
          s.wellAddressed ds) → t.recordsPlaced ∧ t.wellAddressed t.port.applying))

/-- R175, R176, R181: the queues of the Request Port and the counters stay within their bounds. -/
def Obligations.RequestPortStaysBounded : Prop :=
  ∀ s t : State, s.req.bounded → step s = .next t → t.req.bounded

/-- R78, R81, R86: the delta queue stays within 1,024 entries, one for a slot; a slot has an entry exactly when its queued mark is set, no
slot is both queued and dirty, and every entry's kind fits its slot. That an entry goes with a slot that an acknowledgment frees is the
model's reading (assumption 46). -/
def Obligations.DeltaQueueStaysBounded : Prop :=
  ∀ s t : State, s.dq.bounded → step s = .next t → t.dq.bounded ∧
    (tableWf s.table = true → s.relationSound → s.entriesMarked → t.entriesMarked)

/-- R104: at most 8 frames in flight, numbered consecutively modulo 256, each of 1 to 20 records. -/
def Obligations.FramesStayNumbered : Prop :=
  ∀ s t : State, s.port.numbered → step s = .next t → t.port.numbered

/-- R63, R67, R72, R74: a port is never both bound and quarantined, stands in the quarantine list once, and the list holds at most 512; the
bound ports are the lane-region ports that LIVE records name, each named by one; the pool serves outside BOOT the geometry configured; and
an address is disarmed only while its free count is below the threshold. -/
def Obligations.PoolStaysSound : Prop :=
  ∀ s t : State, s.pool.sound → step s = .next t → t.pool.sound ∧ (s.disarmedBelow → t.disarmedBelow) ∧
    (tableWf s.table = true → s.relationSound → s.geometryHeld → s.portsNamed → t.geometryHeld ∧ t.portsNamed)

/-- R2, R80, R92, R96, R109, R163: DOOMED slots, queue entries, frames in flight, a DELTA frame in progress and the role YIELDING stand
only while a relation is UP, BOOT only without one, and the link state follows carrier. R104: an unplaced marker is discarded with its
yield, its sweep or the relation. R87, R163, R166: a condition that the catch-up engine, the yield or the health-hold timer sees at once
never outlasts a step. What a step may set going beside its own effect is what R87 to R89, R101, R163 and R166 say, and nothing else. That
an idle transmitter takes its frame in the same step is the model's choice (assumption 7), as is that these conditions are all seen in it
(assumption 40), the health-hold timer's among them, whose values R170 and R185 have read at a tick (assumption 53), and that a page of the
old exchange which waits behind a busy transmitter is kept when the exchange restarts in HELLO (assumption 50). -/
def Obligations.RelationStaysSound : Prop :=
  ∀ s t : State, step s = .next t →
    (s.relationSound → t.relationSound ∧ (s.markersSound → t.markersSound)) ∧ (s.settled → t.settled) ∧ s.followsUp t

/-- R139: the role line carries the pattern of the role, in every state a step leaves. -/
def Obligations.LinePatternFollowsRole : Prop :=
  ∀ s t : State, s.lineFollowsRole → step s = .next t → t.lineFollowsRole

/-- Every invariant above holds of the state after reset. -/
def Obligations.ResetMeetsTheInvariants : Prop :=
  tableWf State.reset.table = true ∧ State.reset.keysUnique ∧ State.reset.recordsPlaced ∧
  State.reset.wellAddressed State.reset.port.applying ∧ State.reset.req.bounded ∧
  State.reset.dq.bounded ∧ State.reset.entriesMarked ∧ State.reset.port.numbered ∧ State.reset.pool.sound ∧
  State.reset.disarmedBelow ∧ State.reset.geometryHeld ∧ State.reset.portsNamed ∧ State.reset.relationSound ∧
  State.reset.markersSound ∧ State.reset.settled ∧ State.reset.lineFollowsRole

/-- R157, R183, R188: only a takeover entry or a reset moves the epoch. Every command that moves it but a reset to power-on values leaves
the role TAKEOVER, the epoch one more and the takeover tick at now; a DELTA frame does if its first record is a YIELD, and a step without a
command if the next record of a frame in progress is one. The configuration record is held until a SET_CONFIG writes it or a reset returns
it to its defaults. R150, R170: health is written by HEALTH and resets only, the hold flag by HOLD_STANDBY, RELEASE_HOLD and resets, and
the peer fields by a BEAT, a relation start and resets to power-on values. R157, R158, R163: the grace timer is loaded by takeover entry
and counts in TAKEOVER at ticks, and yield-taken is set by takeover entry and cleared by it, by a relation start and by resets. A frame
received while a DELTA frame is in progress is left to `StepRunsTheFrontCommand`. -/
def Obligations.EpochAndConfigurationHeld : Prop :=
  ∀ (front : Option Instr) (s t : State), ¬ s.finishesFrame front →
    (match front with
      | some c => exec c s = .next t
      | none => s.pending = [] ∧ step s = .next t) →
    (t.arb.epoch ≠ s.arb.epoch ∨ t.arb.takeoverTick ≠ s.arb.takeoverTick → match front with
      | some (.powerOn _) | some .hardReset | some (.resetRelease _) => t.arb.epoch = 0 ∧ t.arb.takeoverTick = 0
      | some .carrierLoss | some .silenceTimeout | some (.retransmitTimeout _) | some (.helloInUp _)
      | some (.helloPageReceived _) | some (.beatReceived _) | some .staggerEnd | some (.lineRepetitionJudged _ _)
      | some (.repetitionClosureTimeout _) | some (.unalignedPeriodEnd _) | some (.lineSilenceTimeout _)
      | some .forceActive | some .releaseHold =>
        t.role = .takeover ∧ t.arb.epoch = s.arb.epoch + 1 ∧ t.arb.takeoverTick = s.now
      | some (.deltaReceived payload) => (∃ seq rest, parseFrame payload = some (.delta seq (.yieldMarker :: rest))) ∧
        t.role = .takeover ∧ t.arb.epoch = s.arb.epoch + 1 ∧ t.arb.takeoverTick = s.now
      | none => s.port.applying.head? = some .yieldMarker ∧
        t.role = .takeover ∧ t.arb.epoch = s.arb.epoch + 1 ∧ t.arb.takeoverTick = s.now
      | _ => False) ∧
    (t.cfg ≠ s.cfg → match front with
      | some (.powerOn _) | some .hardReset | some (.resetRelease _) | some .setConfig | some .softReset => True
      | _ => False) ∧
    (t.arb.health ≠ s.arb.health → match front with
      | some (.powerOn _) | some .hardReset | some (.resetRelease _) | some .softReset => t.arb.health = 7
      | some .health => True
      | _ => False) ∧
    (t.arb.hold ≠ s.arb.hold → match front with
      | some (.powerOn _) | some .hardReset | some (.resetRelease _) | some .softReset | some .releaseHold => t.arb.hold = false
      | some .holdStandby => t.arb.hold = true
      | _ => False) ∧
    (t.arb.peer ≠ s.arb.peer → match front with
      | some (.powerOn _) | some .hardReset | some (.resetRelease _) | some (.beatReceived _) => True
      | some (.helloPageReceived _) => s.up = false ∧ t.up = true
      | _ => False) ∧
    (t.arb.grace ≠ s.arb.grace → match front with
      | some (.powerOn _) | some .hardReset | some (.resetRelease _) => True
      | some .millisecond | some .tick => s.role = .takeover ∧ t.arb.grace = s.arb.grace - 1
      | _ => t.arb.epoch = s.arb.epoch + 1 ∧ t.arb.grace = s.cfg.grace) ∧
    (t.arb.yieldTaken ≠ s.arb.yieldTaken → match front with
      | some (.powerOn _) | some .hardReset | some (.resetRelease _) | some .softReset => t.arb.yieldTaken = false
      | some (.helloPageReceived _) => t.arb.yieldTaken = false
      | some (.deltaReceived _) | none => t.arb.epoch = s.arb.epoch + 1 ∧ t.arb.yieldTaken = true
      | _ => t.arb.epoch = s.arb.epoch + 1 ∧ t.arb.yieldTaken = false)

/-- Chapter 1: the table is written by the requests INSERT, UPDATE, TOUCH, REMOVE, CHECK, START and SOFT_RESET, by applied deltas and
acknowledgments, by the walker, by the frame builder and the catch-up engine, and by the end of a relation or a stand-down; nothing else
writes it. A received frame of another kind writes it only where it finishes a DELTA frame in progress, and a step without a command only
where it applies the next record of one (assumption 48). -/
def Obligations.TableHasNoOtherWriter : Prop :=
  (∀ s t : State, s.pending = [] → step s = .next t → t.table ≠ s.table → s.port.applying ≠ []) ∧
  ∀ (c : Instr) (s t : State), exec c s = .next t → t.table ≠ s.table → match c with
    | .powerOn _ | .hardReset | .resetRelease _ | .carrierLoss | .walkerVisit | .silenceTimeout | .retransmitTimeout _
    | .frameBuild | .catchupVisit | .helloPageReceived _ | .helloInUp _ | .beatReceived _ | .deltaReceived _
    | .ackReceived _ | .insert | .update | .touch | .remove | .check | .start | .softReset => True
    | _ => s.finishesFrame (some c)

/-! ### Resets -/

/-- R197: power-on, the hard reset pin and the rising edge of RESET_N leave every block at its power-on values; the strap is sampled at the
first and the last. ROLE_OUT is driven low at the pin, and the low run that R140 counts goes on through the reset. That RESET_N is high
when power comes on is the model's choice (assumption 5). The commands that wait are the model's own and are kept. -/
def Obligations.ResetsLeavePowerOnValues : Prop :=
  ∀ (s : State) (unitSel : Bool) (lowRun : State → Prop),
    (∀ t, lowRun t ↔ (s.driver.level = true → t.driver.lowSince = some s.clock) ∧
      ∀ low, s.driver.level = false → s.driver.lowSince = some low → t.driver.lowSince = some low) →
    (∃ t, exec (.powerOn unitSel) s = .next t ∧ t.atPowerOnValues ∧ t.resetLow = false ∧
      t.letter = (if unitSel then .b else .a)) ∧
    (∃ t, exec .hardReset s = .next t ∧ t.atPowerOnValues ∧ t.resetLow = true ∧ t.roleOut = false ∧
      t.clock = s.clock ∧ lowRun t) ∧
    (s.resetLow = true → ∃ t, exec (.resetRelease unitSel) s = .next t ∧ t.atPowerOnValues ∧ t.resetLow = false ∧
      t.letter = (if unitSel then .b else .a) ∧ t.roleOut = false ∧ t.clock = s.clock ∧ lowRun t)

/-- R197: while RESET_N is low a read of the memory window returns 0 and a write is ignored. That every other command, a carrier change
included, changes nothing, and that the reference clock runs on, are the model's choices (assumptions 28 and 15). -/
def Obligations.ResetHoldsThePart : Prop :=
  ∀ (c : Instr) (s t : State), s.resetLow = true → exec c s = .next t → match c with
    | .powerOn _ | .hardReset | .resetRelease _ => True
    | .millisecond => t = { s with clock := t.clock }
    | .completionWindowRead | .eventLatchRead => t = { s with busData := 0 }
    | _ => t = s

/-! ### The memory window -/

/-- R174, R175, R191: a write of the request window, its unwritten bytes 0, joins the request being assembled; the last word takes the
request, which joins the queue, or is dropped whole at 32. -/
def Obligations.RequestWindowTakesRequests : Prop :=
  ∀ (s : State) (word written : Word) (lanes : BitVec 4) (r : Request), s.resetLow = false →
    (∀ k < 4, written.extractLsb' (8 * k) 8 = if lanes.getLsbD k then word.extractLsb' (8 * k) 8 else 0) →
    (r = match s.req.assembling with
      | none => ⟨written, []⟩
      | some q => ⟨q.header, q.body ++ [written]⟩) →
    exec (.requestWindowWrite word lanes) s = .next (
      if r.body.length < (r.header.extractLsb' 21 5).toNat then { s with req := { s.req with assembling := some r } }
      else if s.req.queue.length < 32 then
        { s with req := { s.req with assembling := none, queue := s.req.queue ++ [r] } }
      else
        { s with req := { s.req with
            assembling := none
            drops := min 65535 (s.req.drops + 1)
            latch := s.req.latch ||| 4096#16 } })

/-- R178, R193: a read of the completion window returns the next word of the head completion, header first, and its last word takes it from
the queue; of an empty queue it returns 0 and moves nothing. -/
def Obligations.CompletionWindowReadsHead : Prop :=
  ∀ (s : State), s.resetLow = false → ∃ t, exec .completionWindowRead s = .next t ∧ match s.req.completions with
    | [] => t = { s with busData := 0 }
    | c :: rest =>
      (s.req.readPos = 0 →
        t.busData.extractLsb' 26 6 = c.kind ∧ t.busData.extractLsb' 22 4 = c.status.code ∧
        t.busData.extractLsb' 16 6 = BitVec.ofNat 6 c.result.length ∧ t.busData.extractLsb' 0 16 = c.tag) ∧
      (∀ n w, s.req.readPos = n + 1 → c.result[n]? = some w → t.busData = w) ∧
      t = { s with
        busData := t.busData
        req := if s.req.readPos < c.result.length then { s.req with readPos := s.req.readPos + 1 }
          else { s.req with readPos := 0, completions := rest } }

/-- R179, R180, R191: a read of the event latch returns it and clears it whole; a write of the event enable, its unwritten bytes 0,
replaces its 16 bits; a write to an item that takes none changes nothing; and the interrupt pin is asserted, low, while any event is both
latched and enabled, and only then. -/
def Obligations.EventsLatchedEnabledAndRead : Prop :=
  ∀ (s : State) (word written : Word) (lanes : BitVec 4) (offset : Nat), s.resetLow = false →
    (∀ k < 4, written.extractLsb' (8 * k) 8 = if lanes.getLsbD k then word.extractLsb' (8 * k) 8 else 0) →
    exec .eventLatchRead s = .next { s with busData := 0#16 ++ s.req.latch, req := { s.req with latch := 0 } } ∧
    exec (.eventEnableWrite word lanes) s = .next { s with req := { s.req with enable := written.extractLsb' 0 16 } } ∧
    exec (.ignoredWindowWrite offset word) s = .next s ∧
    (s.intN = false ↔ ∃ e : Event, s.latched e = true ∧ s.req.enable.getLsbD e.bit = true)

/-! ### Time -/

/-- R47, R52, R158, R185: a millisecond is 25,000 periods; one that brings the count to the tick interval restarts it and takes one tick,
at which 1,056 visits are owed and every timer in ticks counts. That TICK ends all the milliseconds left to that one is the model's reading
(assumption 27); assumption 4 says what `due` holds. -/
def Obligations.MillisecondsMakeTicks : Prop :=
  ∀ s : State, s.resetLow = false → ∃ t u, exec .millisecond s = .next t ∧ exec .tick s = .next u ∧
    t.clock = s.clock / 25000 * 25000 + 25000 ∧
    (s.aging.msCount + 1 < s.cfg.tickInterval →
      t = { s with clock := t.clock, aging := { s.aging with msCount := s.aging.msCount + 1 } }) ∧
    (s.cfg.tickInterval ≤ s.aging.msCount + 1 → t = u) ∧
    u.clock = s.clock / 25000 * 25000 + 25000 * max 1 (s.cfg.tickInterval - s.aging.msCount) ∧
    u.due = ⟨reached u.port.heartbeat s.cfg.heartbeat, reached u.port.silence (s.cfg.beatsLost * s.cfg.heartbeat),
      reached (u.arb.listen.map (·.2)) s.cfg.listenPeriod, reached u.arb.healthHold s.cfg.healthHold,
      reached u.arb.yieldTimer s.cfg.yieldTimeout, true⟩ ∧
    u = { s with
      clock := u.clock
      aging := ⟨0, s.aging.ticks + 1, s.aging.position, s.aging.owed + 1056⟩
      port := { s.port with heartbeat := s.port.heartbeat.map (· + 1), silence := s.port.silence.map (· + 1) }
      arb := { s.arb with
        grace := if s.role = .takeover then s.arb.grace - 1 else s.arb.grace
        listen := s.arb.listen.map (fun l => (l.1, l.2 + 1))
        healthHold := s.arb.healthHold.map (fun n => if n < s.cfg.healthHold then n + 1 else n)
        yieldTimer := s.arb.yieldTimer.map (· + 1) }
      due := u.due }

/-- R52 to R56: an owed visit moves the position on, wrapping at 16,896. It acts on a LIVE slot in ACTIVE or TAKEOVER only: it ends a
session that is due, a loose one a refresh quantum later and a pinned one never, and otherwise offers an owed REFRESH below the watermark,
which joins the queue or merges into the slot's entry, and counts the suppression at it. -/
def Obligations.WalkerVisits : Prop :=
  ∀ (s : State) (i : Nat), s.resetLow = false → tableWf s.table = true → 0 < s.aging.owed → i = s.aging.position →
    ∃ t, exec .walkerVisit s = .next t ∧
      t.aging = { s.aging with position := if i + 1 < 16896 then i + 1 else 0, owed := s.aging.owed - 1 } ∧
      ((s.slot i).live? = none ∨ (s.role ≠ .active ∧ s.role ≠ .takeover) → t = { s.followedBy t with aging := t.aging }) ∧
      ∀ r allowance, (s.slot i).live? = some r → s.role = .active ∨ s.role = .takeover →
        allowance = (if s.loose r then max 1 (s.cfg.timeouts[r.cls.toNat]'(r.cls.isLt) / 4) else 0) →
        (r.pinned = false ∧ (allowance : Int) < (s.now - r.deadline).toInt →
          s.sessionEnded t i { r with marks := { r.marks with owed := false } } ∧ s.poolLowFollows t false ∧
          s.latchedOnly t [.queueOverflow, .poolLow] ∧
          t = { s.followedBy t with
            aging := t.aging
            table := t.table
            dq := t.dq
            pool := { s.pool with bound := t.pool.bound, quarantine := t.pool.quarantine, armed := t.pool.armed }
            req := { s.req with
              latch := t.req.latch
              counters := { s.req.counters with
                deltasCoalesced := t.req.counters.deltasCoalesced
                overflowMarks := t.req.counters.overflowMarks
                quarantineEarly := t.req.counters.quarantineEarly } } }) ∧
        (r.pinned = true ∨ (s.now - r.deadline).toInt ≤ allowance →
          (r.marks.owed = false → t = { s.followedBy t with aging := t.aging }) ∧
          (r.marks.owed = true → 768 ≤ s.dq.entries.length →
            t = { s.followedBy t with
              aging := t.aging
              req := { s.req with counters := { s.req.counters with
                refreshSuppressed := min 65535 (s.req.counters.refreshSuppressed + 1) } } }) ∧
          (r.marks.owed = true → s.dq.entries.length < 768 → s.up = true → s.entryKind i = none →
            t.dq.entries = s.dq.entries ++ [⟨i, .refresh⟩] ∧
            t.slot i = ⟨(s.slot i).version, .live { r with marks := ⟨true, false, false⟩ }⟩ ∧
            (∀ j, j ≠ i → t.slot j = s.slot j) ∧
            t = { s.followedBy t with aging := t.aging, table := t.table, dq := t.dq }) ∧
          (∀ kind, r.marks.owed = true → s.dq.entries.length < 768 → s.up = true → s.entryKind i = some kind →
            t.dq.entries = s.dq.entries.map (fun e => if e.slot = i then ⟨i, kind⟩ else e) ∧
            t.slot i = ⟨(s.slot i).version, .live { r with marks := { r.marks with owed := false } }⟩ ∧
            (∀ j, j ≠ i → t.slot j = s.slot j) ∧
            t = { s.followedBy t with
              aging := t.aging
              table := t.table
              dq := t.dq
              req := { s.req with counters := { s.req.counters with
                deltasCoalesced := min 65535 (s.req.counters.deltasCoalesced + 1) } } }))

/-- R68: at a tick, the entries at the head of the quarantine list that have served the hold now configured leave it, up to the first that
has not; their ports are free, and no port is bound. An address whose free count changes is evaluated (R72). -/
def Obligations.QuarantineServesItsHold : Prop :=
  ∀ s : State, s.resetLow = false → s.due.quarantine = true → ∃ t, exec .quarantineHoldExpiry s = .next t ∧
    t.pool.quarantine =
      s.pool.quarantine.dropWhile (fun q => decide ((s.cfg.quarantineHold : Int) ≤ (s.now - q.since).toInt)) ∧
    s.poolLowFollows t false ∧ s.latchedOnly t [.poolLow] ∧
    t = { s with
      pool := { s.pool with quarantine := t.pool.quarantine, armed := t.pool.armed }
      due := { s.due with quarantine := false }
      req := { s.req with latch := t.req.latch } }

/-- R101, R119, R120, R123: the heartbeat puts a BEAT of the values as they stand, 10 ms without a page sends the current page again, and
500 ms without progress restarts the exchange at page 1. -/
def Obligations.TimersPutFrames : Prop :=
  ∀ (s : State) (phase c : Nat), s.resetLow = false → c = (s.atPhase phase).clock →
    (∀ n, s.due.heartbeat = true → s.up = true → s.port.heartbeat = some n → s.cfg.heartbeat ≤ n →
      ∃ t b, exec .heartbeatTimeout s = .next t ∧
        b = (⟨s.role, BitVec.ofNat 3 s.arb.health, BitVec.ofNat 4 s.cfg.priority, decide (s.letter = .b),
          decide (0 < s.dirtyCount), s.arb.hold, s.sweep.state, BitVec.ofNat 16 s.liveCount⟩ : Beat) ∧
        (t.port.tx.beat = some b ∨ t.port.tx.sending = some (.beat b)) ∧ t.port.heartbeat = some 0 ∧
        t = { s.followedBy t with due := { s.due with heartbeat := false } }) ∧
    (s.port.link = .hello → s.role ≠ .boot → s.hello.pacingSince + 250000 ≤ c →
      ∃ t, exec (.helloPacing phase) s = .next t ∧
        t.pageSent ⟨s.hello.toggle, s.hello.ackToggle, s.hello.comply, true, s.hello.exchange, s.hello.ackExchange,
          s.pageContent s.hello.ownPage⟩ ∧
        t = { s.followedBy t with
          clock := c
          hello := { s.hello with pacingSince := c, sentIdentity := t.hello.sentIdentity } }) ∧
    (s.port.link = .hello → s.role ≠ .boot → s.hello.helloSince + 12500000 ≤ c →
      ∃ t, exec (.helloTimeout phase) s = .next t ∧ s.exchangeBegun t ∧
        t = { s.followedBy t with clock := c, hello := t.hello })

/-! ### Carrier and the end of a relation -/

/-- R96, R119: carrier that appears on a DOWN link makes it HELLO, and outside BOOT the exchange begins; carrier lost without a relation
makes it DOWN. In LOOPBACK either is noted only. That whatever waits to be sent is then dropped is the model's choice (assumption 50): R97
says only that DOWN sends nothing. -/
def Obligations.CarrierWithoutRelation : Prop :=
  ∀ s : State, s.resetLow = false →
    (s.port.carrier = false → ∃ t, exec .carrierUp s = .next t ∧
      (s.port.link = .down ∧ s.role ≠ .boot → s.exchangeBegun t) ∧
      (s.port.link ≠ .down ∨ s.role = .boot → t.hello = s.hello) ∧
      t = { s.followedBy t with
        port := { (s.followedBy t).port with
          carrier := true
          link := if s.port.link = .down then .hello else s.port.link }
        hello := t.hello }) ∧
    (s.port.carrier = true → s.up = false → ∃ t, exec .carrierLoss s = .next t ∧
      (s.port.link ≠ .loopback → t.port.tx = { Transmitter.initial with sending := s.port.tx.sending }) ∧
      t = { s.followedBy t with
        port := { (s.followedBy t).port with
          carrier := false
          link := if s.port.link = .loopback then .loopback else .down } })

/-- R92, R103, R108, R113, R136, R162, R165: each cause ends the relation with its reason, taken whole: waiting frames dropped, a running
FAR loop test completed with its counts (assumption 9 for the count sent), a YIELDING unit gone ACTIVE, and the line rule made in the same
step (assumption 26). Everything else stands: the tick count and the walker, the monitor, the quarantine list and the cursors, the request
queue, health, the hold flag and the peer fields. That a DELTA frame in progress ends unacknowledged, the rest of its records dropped, is
the model's choice (assumption 48). R125: a page 1 that ends the relation is the first page of the new exchange, which refuses the link or
takes it; a page 2 to 4 met in UP is discarded and only restarts the silence timer. -/
def Obligations.RelationEnds : Prop :=
  ∀ (s : State) (phase : Nat) (payload : List Byte), s.resetLow = false → tableWf s.table = true → s.up = true →
    (s.port.carrier = true → ∃ t, exec .carrierLoss s = .next t ∧ s.relationEndedIn t .carrier ∧ s.relationGone t ∧
      t.port.link = .down ∧ t.port.carrier = false ∧ t.port.tx.hello = [] ∧ t.hello = s.hello ∧ t.clock = s.clock ∧
      t.due = s.due ∧ t.latched .incompatible = s.latched .incompatible) ∧
    (∀ n, s.due.silence = true → s.port.silence = some n → s.cfg.beatsLost * s.cfg.heartbeat ≤ n →
      ∃ t, exec .silenceTimeout s = .next t ∧ s.relationEndedIn t .silent ∧ s.relationGone t ∧ s.exchangeRestarted t ∧
        t.port.link = (if s.port.carrier then .hello else .down) ∧ t.port.carrier = s.port.carrier ∧ t.clock = s.clock ∧
        t.due = { s.due with silence := false } ∧ t.latched .incompatible = s.latched .incompatible) ∧
    (∀ f rest sent, s.port.inFlight = f :: rest → f.sentAt = some sent → sent + 125000 ≤ (s.atPhase phase).clock →
      6 ≤ f.attempts → ∃ t, exec (.retransmitTimeout phase) s = .next t ∧ s.relationEndedIn t .exhausted ∧
        s.relationGone t ∧ s.exchangeRestarted t ∧
        t.port.link = (if s.port.carrier then .hello else .down) ∧ t.port.carrier = s.port.carrier ∧
        t.clock = (s.atPhase phase).clock ∧ t.due = s.due ∧ t.latched .incompatible = s.latched .incompatible) ∧
    (∀ p i, s.port.applying = [] → parseFrame payload = some (.hello p) → p.content = .identity i →
      ∃ t, exec (.helloInUp payload) s = .next t ∧ s.relationEndedIn t .helloSeen ∧ s.relationGone t ∧
        t.port.carrier = s.port.carrier ∧ t.clock = s.clock ∧ t.due = s.due ∧
        (s.port.carrier = false ∨ s.role = .boot → t.hello = s.hello ∧
          t.port.link = (if s.port.carrier then .hello else .down) ∧ t.latched .incompatible = s.latched .incompatible) ∧
        (s.port.carrier = true → s.role ≠ .boot → t.hello.exchange ≠ s.hello.exchange ∧
          (p.comply = false → t.port.link = .refused ∧ t.hello.refusal = some ⟨1, true⟩ ∧ t.latched .incompatible = true) ∧
          (p.comply = true → ¬ s.pageAgrees p.content →
            t.port.link = .refused ∧ t.hello.refusal = some ⟨1, false⟩ ∧ t.latched .incompatible = true) ∧
          (p.comply = true → s.pageAgrees p.content →
            t.port.link = .hello ∧ t.hello.taken = 1 ∧ t.hello.peerIdentity = some i ∧ t.hello.ackToggle = p.toggle ∧
            t.hello.ackExchange = p.exchange ∧ t.latched .incompatible = s.latched .incompatible ∧
            (p.ackToggle = true ∨ p.ackExchange ≠ t.hello.exchange → t.hello.ownPage = 1 ∧ t.hello.toggle = false) ∧
            (p.ackToggle = false → p.ackExchange = t.hello.exchange → t.hello.ownPage = 2 ∧ t.hello.toggle = true)))) ∧
    (∀ p, s.port.applying = [] → parseFrame payload = some (.hello p) → 1 < p.content.number → ∃ t,
      exec (.helloInUp payload) s = .next t ∧
      t = { s.followedBy t with port := { (s.followedBy t).port with silence := s.port.silence.map (fun _ => 0) } })

/-- R113, R125, R150, R155 to R157: the peer-loss decision of a STANDBY, JOINING or ISOLATED unit whose relation ends, by carrier, silence,
exhaustion or a page 1 met in UP, whether that page is then taken or refused. It moves the role, the arbiter and the lane mode as it says,
and nothing that a relation end leaves alone. -/
def Obligations.PeerLossDecision : Prop :=
  ∀ (s : State) (phase : Nat) (payload : List Byte) (decided : State → Prop), s.resetLow = false → s.up = true →
    s.role = .standby ∨ s.role = .joining ∨ s.role = .isolated →
    (∀ t, decided t ↔ s.peerLossDecided t s.monitor.cls ∧ s.relationGone t) →
    (s.port.carrier = true → ∃ t, exec .carrierLoss s = .next t ∧ decided t) ∧
    (∀ n, s.due.silence = true → s.port.silence = some n → s.cfg.beatsLost * s.cfg.heartbeat ≤ n →
      ∃ t, exec .silenceTimeout s = .next t ∧ decided t) ∧
    (∀ f rest sent, s.port.inFlight = f :: rest → f.sentAt = some sent → sent + 125000 ≤ (s.atPhase phase).clock →
      6 ≤ f.attempts → ∃ t, exec (.retransmitTimeout phase) s = .next t ∧ decided t) ∧
    (∀ p i, s.port.applying = [] → parseFrame payload = some (.hello p) → p.content = .identity i →
      ∃ t, exec (.helloInUp payload) s = .next t ∧ decided t)

/-! ### Roles -/

/-- R101, R139, R149, R158, R159: grace that has run out makes the role ACTIVE, and without a relation the lane mode BOTH; the change of
role puts a BEAT while UP, restarts the exchange in HELLO, and lets the waveform go on without a break. -/
def Obligations.GraceEnds : Prop :=
  ∀ s : State, s.resetLow = false → s.role = .takeover → s.arb.grace = 0 → ∃ t, exec .graceEnd s = .next t ∧
    t.role = .active ∧ t.latched .graceEnded = true ∧ s.roleChangeTaken t ∧ s.exchangeFollows t ∧
    s.poolLowFollows t false ∧ s.latchedOnly t [.roleChanged, .graceEnded, .poolLow] ∧
    t = { s.roleMoved t with
      pool := { s.pool with laneMode := if s.up then s.pool.laneMode else .both, armed := t.pool.armed } }

/-- R149, R154: the decisions at the end of a first and of a second listen period, and what a change of role brings. None is a takeover
entry. That a second period which ends on an ACTIVE line with the hold flag set goes ISOLATED is the model's reading (assumption 45). -/
def Obligations.ListenPeriodsEnd : Prop :=
  ∀ (s : State) (n : Nat), s.resetLow = false → s.role = .listen → s.due.listen = true → s.cfg.listenPeriod ≤ n →
    (s.arb.listen = some (.first, n) → ∃ t, exec .listenPeriodEnd s = .next t ∧
      (t.role, t.arb.listen) = (
        if s.monitor.cls = .active then (.isolated, none)
        else if s.arb.hold then (.listen, none)
        else match s.letter with
          | .a => (.active, none)
          | .b => (.listen, some (.second, 0))) ∧
      s.roleChangeTaken t ∧ s.exchangeFollows t ∧ s.latchedOnly t [.roleChanged] ∧
      t = { s.roleMoved t with
        arb := { (s.roleMoved t).arb with listen := t.arb.listen }
        due := { s.due with listen := false } }) ∧
    (s.arb.listen = some (.second, n) → ∃ t, exec .secondListenEnd s = .next t ∧
      (t.role, t.arb.listen) = (
        if s.monitor.cls = .active then (.isolated, none)
        else if s.arb.hold then (.listen, none)
        else (.active, none)) ∧
      s.roleChangeTaken t ∧ s.exchangeFollows t ∧ s.latchedOnly t [.roleChanged] ∧
      t = { s.roleMoved t with
        arb := { (s.roleMoved t).arb with listen := t.arb.listen }
        due := { s.due with listen := false } })

/-- R155 to R157, R168: takeover entry, by the end of the stagger of a unit without a relation and by FORCE_ACTIVE, which is refused with a
relation UP and outside the roles that wait. Nothing is written to any record. The role and hold flag of a refused FORCE_ACTIVE's result
are the model's reading (assumption 21). -/
def Obligations.TakeoverEntered : Prop :=
  ∀ s : State, s.resetLow = false →
    (∀ n, s.up = false → s.role = .standby ∨ s.role = .joining ∨ s.role = .isolated → s.due.listen = true →
      s.arb.listen = some (.stagger, n) → s.cfg.listenPeriod ≤ n → s.monitor.cls ≠ .active → s.arb.hold = false →
      ∃ t, exec .staggerEnd s = .next t ∧ s.tookOver t false ∧ s.exchangeFollows t ∧
        s.latchedOnly t [.roleChanged, .partialTakeover, .poolLow] ∧
        t = { s.roleMoved t with
          arb := t.arb
          pool := { s.pool with laneMode := .own, armed := t.pool.armed }
          due := { s.due with listen := false } }) ∧
    (∀ r, s.canBegin r 11 1 → r.word 0 = 0 → ∃ t, exec .forceActive s = .next t ∧
      match s.role with
      | .listen | .standby | .joining | .isolated =>
        if s.up then
          t = (s.followedBy t).answered r .peerPresent [numWord s.role.code, flagWord s.arb.hold]
        else s.tookOver t false ∧ s.exchangeFollows t ∧ s.completed t r .ok [5, flagWord s.arb.hold] ∧
          s.latchedOnly t [.roleChanged, .partialTakeover, .poolLow, .completionReady] ∧
          t = { s.roleMoved t with
            arb := t.arb
            pool := { s.pool with laneMode := .own, armed := t.pool.armed }
            req := { s.req with queue := t.req.queue, completions := t.req.completions, latch := t.req.latch } }
      | _ => t = (s.followedBy t).answered r .notReady [numWord s.role.code, flagWord s.arb.hold])

/-- R101, R104, R163, R165, R166, R169: a yield begins, by request or by the health hold, when every condition holds; its marker is handed
over at once if the queue is empty, and the change of role puts a BEAT. The health-hold timer stops, and starts at 0 when a yield that
timed out leaves its conditions again; that these are read in the step itself, and not at a tick, is the model's choice (assumption 53). A
request whose conditions fail answers NOT_READY, and a yield that times out returns to ACTIVE, its unplaced marker discarded. -/
def Obligations.YieldBeginsAndTimesOut : Prop :=
  ∀ (s : State) (conditions : Prop), s.resetLow = false →
    (conditions ↔ s.role = .active ∧ s.up = true ∧ s.arb.peer.role = some .standby ∧ s.arb.peer.lagging = false ∧
      s.arb.peer.hold = false ∧ s.sweep.state = .idle ∧ s.dirtyCount = 0) →
    (∀ r, s.canBegin r 11 1 → r.word 0 = 3 → ∃ t, exec .roleRequestYield s = .next t ∧
      (conditions → s.completed t r .ok [6, flagWord s.arb.hold] ∧ t.role = .yielding ∧ t.arb.yieldTimer = some 0 ∧
        t.arb.healthHold = none ∧ (t.port.yieldMarker = true ↔ s.dq.entries = []) ∧ s.roleChangeTaken t ∧ s.exchangeFollows t ∧
        s.latchedOnly t [.roleChanged, .completionReady] ∧
        t = { s.roleMoved t with
          req := { s.req with queue := t.req.queue, completions := t.req.completions, latch := t.req.latch } }) ∧
      (¬ conditions →
        t = (s.followedBy t).answered r .notReady [numWord s.role.code, flagWord s.arb.hold])) ∧
    (∀ n, conditions → s.due.healthHold = true → s.arb.healthHold = some n → s.cfg.healthHold ≤ n →
      s.prefersPeer → ∃ t, exec .healthHoldYield s = .next t ∧ t.role = .yielding ∧ t.arb.yieldTimer = some 0 ∧
        t.arb.healthHold = none ∧ (t.port.yieldMarker = true ↔ s.dq.entries = []) ∧ s.roleChangeTaken t ∧ s.exchangeFollows t ∧
        s.latchedOnly t [.roleChanged] ∧ t = { s.roleMoved t with due := { s.due with healthHold := false } }) ∧
    (∀ n, s.role = .yielding → s.due.yieldTimer = true → s.arb.yieldTimer = some n → s.cfg.yieldTimeout ≤ n →
      ∃ t, exec .yieldTimeout s = .next t ∧ t.role = .active ∧ t.arb.yieldTimer = none ∧ t.latched .yieldFailed = true ∧
        t.port.yieldMarker = false ∧
        (s.arb.healthHold = none → s.up = true → s.prefersPeer → t.arb.healthHold = some 0) ∧
        (s.up = false ∨ ¬ s.prefersPeer → t.arb.healthHold = none) ∧
        s.roleChangeTaken t ∧ s.exchangeFollows t ∧ s.latchedOnly t [.roleChanged, .yieldFailed] ∧
        t = { s.roleMoved t with due := { s.due with yieldTimer := false } })

/-! ### Sending -/

/-- R107: with the oldest frame 5 ms past its send time and sent fewer than 6 times, every frame in flight is resent, oldest first. That
the send times are unset until each new transmission ends, and that frames which waited for their first send join the resends, is the
model's choice, as is the count of every frame at the go-back itself (assumption 36). So is it that an idle transmitter takes the oldest in
the same step (assumption 7). -/
def Obligations.GoBackResends : Prop :=
  ∀ (s : State) (phase sent : Nat) (f : InFlight) (rest : List InFlight), s.resetLow = false → s.up = true →
    s.port.inFlight = f :: rest → f.sentAt = some sent → sent + 125000 ≤ (s.atPhase phase).clock → f.attempts < 6 →
    ∃ t, exec (.retransmitTimeout phase) s = .next t ∧
      (s.port.tx.sending ≠ none →
        t.port.tx = { s.port.tx with resend := s.port.inFlight.map (·.seq), fresh := [] }) ∧
      (s.port.tx = Transmitter.initial →
        t.port.tx = { Transmitter.initial with
          sending := some (.delta f.seq f.records), resend := rest.map (·.seq) }) ∧
      t = { s.followedBy t with
        clock := (s.atPhase phase).clock
        port := { (s.followedBy t).port with
          inFlight := s.port.inFlight.map (fun g => { g with attempts := g.attempts + 1, sentAt := none }) }
        req := { s.req with counters := { s.req.counters with
          framesResent := min 65535 (s.req.counters.framesResent + s.port.inFlight.length) } } }

/-- R99: the end of a transmission records a DELTA frame's send time, and the next frame is taken in the order ACK, BEAT, resent DELTA, new
DELTA, returned PROBE, outbound PROBE. HELLO pages stand before all of these (assumption 7). That the running loop test counts a probe as
sent, and begins its 100 ms, at the end of a transmission is the model's reading; one of an earlier test does neither (assumption 9). -/
def Obligations.TransmitterPrecedence : Prop :=
  ∀ (s : State) (phase c : Nat) (g : Frame) (tx : Transmitter), s.resetLow = false → c = (s.atPhase phase).clock →
    s.port.tx.sending = some g → tx = { s.port.tx with sending := none } → ∃ t, exec (.transmitDone phase) s = .next t ∧
      t = { s.followedBy t with
        clock := c
        port := { (s.followedBy t).port with inFlight := s.port.inFlight.map (fun f => match g with
          | .delta seq _ => if f.seq = seq then { f with sentAt := some c } else f
          | _ => f) }
        req := { s.req with running := t.req.running } } ∧
      (t.req.running = match s.req.running, g with
        | some u, .probe p =>
          if p.direction ≠ 0 then some u
          else if u.earlier then some { u with earlier := false }
          else some { u with sent := u.sent + 1, since := some (u.since.getD c) }
        | u, _ => u) ∧
      match tx with
      | ⟨_, p :: rest, _, _, _, _, _, _⟩ => t.port.tx = { tx with sending := some (.hello p), hello := rest }
      | ⟨_, [], n :: rest, _, _, _, _, _⟩ => t.port.tx = { tx with sending := some (.ack n), acks := rest }
      | ⟨_, [], [], some b, _, _, _, _⟩ => t.port.tx = { tx with sending := some (.beat b), beat := none }
      | ⟨_, [], [], none, q :: rest, _, _, _⟩ => ∀ f, s.port.inFlight.find? (fun f => decide (f.seq = q)) = some f →
          t.port.tx = { tx with sending := some (.delta q f.records), resend := rest }
      | ⟨_, [], [], none, [], q :: rest, _, _⟩ => ∀ f, s.port.inFlight.find? (fun f => decide (f.seq = q)) = some f →
          t.port.tx = { tx with sending := some (.delta q f.records), fresh := rest }
      | ⟨_, [], [], none, [], [], p :: rest, _⟩ => t.port.tx = { tx with sending := some (.probe p), returned := rest }
      | ⟨_, [], [], none, [], [], [], p :: rest⟩ => t.port.tx = { tx with sending := some (.probe p), outbound := rest }
      | ⟨_, [], [], none, [], [], [], []⟩ => t.port.tx = tx

/-- R90, R104, R163: with no sweep running, a frame takes the first 20 entries of the queue in order, each as its slot stands; their queued
marks are cleared, a full record sets deadline sent and clears refresh-owed, and the frame joins the in-flight list under the next number.
The YIELD marker, handed when the last entry is taken, is the frame's last record if a place is left, and otherwise waits; one handed
before the build keeps a place (assumption 8). -/
def Obligations.FrameTakesQueueHead : Prop :=
  ∀ (s : State) (taken : List Entry) (handed yields : Bool), s.resetLow = false → tableWf s.table = true → s.up = true →
    s.port.inFlight.length < 8 → s.sweep.state ≠ .sweeping → s.port.sweepBegin = false → s.port.sweepEnd = false →
    s.dq.entries ≠ [] ∨ s.port.yieldMarker = true → (∀ e ∈ s.dq.entries, (s.entryDelta e).isSome = true) →
    taken = s.dq.entries.take (if s.port.yieldMarker then 19 else 20) →
    (handed = true ↔ s.port.yieldMarker = true ∨
      (s.role = .yielding ∧ s.arb.yieldHanded = false ∧ s.dq.entries.length ≤ 20)) →
    (yields = true ↔ handed = true ∧ taken.length < 20) →
    ∃ t, exec .frameBuild s = .next t ∧
      t.port.inFlight = s.port.inFlight ++
        [⟨s.port.nextSeq, taken.filterMap s.entryDelta ++ (if yields then [.yieldMarker] else []), 1, none, false⟩] ∧
      t.port.nextSeq = s.port.nextSeq + 1 ∧ t.dq.entries = s.dq.entries.drop taken.length ∧
      t.port.yieldMarker = (handed && !yields) ∧
      (∀ i, t.slot i =
        if i ∈ taken.map (·.slot) then
          match (s.slot i).body with
          | .live r => ⟨(s.slot i).version,
              .live { r with deadlineSent := r.deadline, marks := ⟨false, r.marks.dirty, false⟩ }⟩
          | .doomed r => ⟨(s.slot i).version, .doomed { r with marks := { r.marks with queued := false } }⟩
          | .free => s.slot i
        else s.slot i) ∧
      t = { s.followedBy t with
        table := t.table
        dq := t.dq
        port := { (s.followedBy t).port with inFlight := t.port.inFlight, nextSeq := t.port.nextSeq }
        sweep := { s.sweep with scanCount := t.sweep.scanCount } }

/-- R104, R131 to R133: a build in a sweep whose queue fits the frame. SWEEP_BEGIN comes first; an entry behind the cursor is sent, and one
at or ahead of it is dropped, its DOOMED slot going FREE; with 20 places taken nothing is scanned, and the entries behind the one that took
the last place stay queued; FILLs of the LIVE slots from the cursor on follow, a dirty DOOMED slot the scan meets goes FREE and every other
free or DOOMED slot is passed over; the scan stops at 20 records, at 256 slots or at 16,896, where SWEEP_END follows if a place is left. A
frame without a record is not built. A SWEEP_END that waits keeps a place: 19 records go before it and the other entries stay queued
(assumption 8). R87: entries that leave the queue with dirty slots behind start an IDLE catch-up engine, also where the scan of this build
then clears the marks. -/
def Obligations.SweepPassesFreeSlots : Prop :=
  ∀ (s : State) (c : Nat) (sent : List Entry) (head : List Delta), s.resetLow = false → tableWf s.table = true →
    s.up = true → s.port.inFlight.length < 8 → s.sweep.state = .sweeping → s.sweep.cursor = c → c ≤ 16896 →
    s.port.yieldMarker = false → s.role ≠ .yielding → c < 16896 ∨ s.port.sweepEnd = true →
    sent = s.dq.entries.filter (fun e => decide (e.slot < c)) → (∀ e ∈ sent, (s.entryDelta e).isSome = true) →
    head = (if s.port.sweepBegin then [.sweepBegin] else []) ++ sent.filterMap s.entryDelta →
    (s.dq.entries.map (·.slot)).Nodup →
    (20 ≤ head.length → s.port.sweepEnd = false → ∃ t, exec .frameBuild s = .next t ∧
      t.port.inFlight = s.port.inFlight ++ [⟨s.port.nextSeq, head.take 20, 1, none, false⟩] ∧
      t.port.nextSeq = s.port.nextSeq + 1 ∧ t.sweep = ⟨.sweeping, c, 0⟩ ∧
      (∃ (m : Nat) (e : Entry) (met : List Entry), met = s.dq.entries.take (m + 1) ∧ s.dq.entries[m]? = some e ∧ e.slot < c ∧
        (met.filter (fun e => decide (e.slot < c))).length + (if s.port.sweepBegin then 1 else 0) = 20 ∧
        t.dq.entries = s.dq.entries.drop (m + 1) ∧
        ∀ i, t.slot i =
          if i ∈ met.map (·.slot) then
            match (s.slot i).body with
            | .live r => ⟨(s.slot i).version, .live (
                if i < c then { r with deadlineSent := r.deadline, marks := ⟨false, r.marks.dirty, false⟩ }
                else { r with marks := { r.marks with queued := false } })⟩
            | .doomed r => ⟨(s.slot i).version,
                if i < c then .doomed { r with marks := { r.marks with queued := false } } else .free⟩
            | .free => s.slot i
          else s.slot i) ∧
      t = { s.followedBy t with
        table := t.table
        dq := t.dq
        port := { (s.followedBy t).port with
          inFlight := t.port.inFlight, nextSeq := t.port.nextSeq, sweepBegin := false }
        sweep := t.sweep }) ∧
    (s.port.sweepEnd = true → c = 16896 → sent = s.dq.entries → 19 ≤ head.length → ∃ t taken, exec .frameBuild s = .next t ∧
      taken = sent.take (19 - if s.port.sweepBegin then 1 else 0) ∧
      t.port.inFlight = s.port.inFlight ++ [⟨s.port.nextSeq, head.take 19 ++ [.sweepEnd], 1, none, true⟩] ∧
      t.port.nextSeq = s.port.nextSeq + 1 ∧
      t.sweep = ⟨.draining, 16896, 0⟩ ∧ t.dq.entries = s.dq.entries.drop taken.length ∧
      (∀ i, t.slot i =
        if i ∈ taken.map (·.slot) then
          match (s.slot i).body with
          | .live r => ⟨(s.slot i).version,
              .live { r with deadlineSent := r.deadline, marks := ⟨false, r.marks.dirty, false⟩ }⟩
          | .doomed r => ⟨(s.slot i).version, .doomed { r with marks := { r.marks with queued := false } }⟩
          | .free => s.slot i
        else s.slot i) ∧
      t = { s.followedBy t with
        table := t.table
        dq := t.dq
        port := { (s.followedBy t).port with
          inFlight := t.port.inFlight, nextSeq := t.port.nextSeq, sweepBegin := false, sweepEnd := false }
        sweep := t.sweep }) ∧
    (head.length + (if s.port.sweepEnd then 1 else 0) < 20 →
    ∃ (t : State) (c' : Nat) (fills : List Delta), exec .frameBuild s = .next t ∧
      c ≤ c' ∧ c' ≤ 16896 ∧ c' ≤ c + 256 ∧
      fills = (List.range (c' - c)).filterMap (fun k => (s.slot (c + k)).live?.map (s.fullOf .fill (c + k))) ∧
      head.length + fills.length ≤ 20 ∧
      (head.length + fills.length < 20 → c' = min 16896 (c + 256)) ∧
      (head.length + fills.length = 20 → c < c' → (s.slot (c' - 1)).live? ≠ none) ∧
      (∀ ends records, (ends = true ↔ c' = 16896 ∧ head.length + fills.length < 20) →
        records = head ++ fills ++ (if ends then [.sweepEnd] else []) →
        t.port.inFlight = s.port.inFlight ++
          (if records = [] then [] else [⟨s.port.nextSeq, records, 1, none, ends⟩]) ∧
        t.port.nextSeq = s.port.nextSeq + (if records = [] then 0 else 1) ∧
        t.sweep = ⟨if ends then .draining else .sweeping, c', c' - c⟩ ∧
        t.port.sweepEnd = (if c' = 16896 then !ends else s.port.sweepEnd)) ∧
      t.dq.entries = [] ∧
      (s.dq.entries ≠ [] → s.role = .active ∨ s.role = .takeover →
        (∃ i, s.dirtyAt i = true ∧ ∀ e ∈ s.dq.entries, e.slot ≠ i) →
        t.dq.catchup = true ∧ (s.dq.catchup = false → t.dq.catchupCursor = 0)) ∧
      (∀ (i : Nat) (queued : Bool), (queued = true ↔ ∃ e ∈ s.dq.entries, e.slot = i) →
        t.slot i = match (s.slot i).body with
          | .free => s.slot i
          | .live r =>
            if c ≤ i ∧ i < c' then ⟨(s.slot i).version, .live { r with
              deadlineSent := r.deadline, marks := ⟨if queued then false else r.marks.queued, false, false⟩ }⟩
            else if queued = true ∧ i < c then ⟨(s.slot i).version, .live { r with
              deadlineSent := r.deadline, marks := ⟨false, r.marks.dirty, false⟩ }⟩
            else if queued then ⟨(s.slot i).version, .live { r with marks := { r.marks with queued := false } }⟩
            else s.slot i
          | .doomed r =>
            if c ≤ i ∧ (queued = true ∨ (i < c' ∧ r.marks.dirty = true)) then ⟨(s.slot i).version, .free⟩
            else if queued then ⟨(s.slot i).version, .doomed { r with marks := { r.marks with queued := false } }⟩
            else s.slot i) ∧
      t = { s.followedBy t with
        table := t.table
        dq := t.dq
        port := { (s.followedBy t).port with
          inFlight := t.port.inFlight, nextSeq := t.port.nextSeq, sweepBegin := false, sweepEnd := t.port.sweepEnd }
        sweep := t.sweep })

/-- R88, R89: a visit of the running catch-up engine queues a CHANGE for a dirty LIVE slot and a DELETE for a dirty DOOMED one, pauses at a
full queue, and ends a pass after slot 16,895, dirty or not. That an engine which goes IDLE there stands at cursor 0 is the model's choice
(assumption 37): R88 and R89 give it only to a pass that begins again. -/
def Obligations.CatchupRepairs : Prop :=
  ∀ (s : State) (i : Nat) (x : Slot), s.resetLow = false → tableWf s.table = true → s.up = true →
    s.role = .active ∨ s.role = .takeover → s.dq.catchup = true → i = s.dq.catchupCursor → x = s.slot i →
    ∃ t, exec .catchupVisit s = .next t ∧
      (s.dirtyAt i = true → 1024 ≤ s.dq.entries.length → t = { s.followedBy t with dq := s.dq }) ∧
      (s.dirtyAt i = true → s.dq.entries.length < 1024 → s.entryKind i = none → i + 1 < 16896 →
        t.dq = ⟨s.dq.entries ++ [⟨i, if x.doomed? = none then .change else .delete⟩], true, i + 1⟩ ∧
        t.slot i = x.mapRecord (fun r => { r with marks := { r.marks with queued := true, dirty := false } }) ∧
        (∀ j, j ≠ i → t.slot j = s.slot j) ∧ t = { s.followedBy t with dq := t.dq, table := t.table }) ∧
      (s.dirtyAt i = true → s.dq.entries.length < 1024 → s.entryKind i = none → i = 16895 →
        t.dq.entries = s.dq.entries ++ [⟨i, if x.doomed? = none then .change else .delete⟩] ∧
        t.slot i = x.mapRecord (fun r => { r with marks := { r.marks with queued := true, dirty := false } }) ∧
        (∀ j, j ≠ i → t.slot j = s.slot j) ∧ t.dq.catchupCursor = 0 ∧
        (s.dirtyCount = 1 → t.dq.catchup = false ∧ t.latched .catchupDone = true ∧ s.latchedOnly t [.catchupDone] ∧
          t = { s.followedBy t with dq := t.dq, table := t.table, req := { s.req with latch := t.req.latch } }) ∧
        (1 < s.dirtyCount → t.dq.catchup = true ∧ t = { s.followedBy t with dq := t.dq, table := t.table })) ∧
      (s.dirtyAt i = false → i + 1 < 16896 → t = { s.followedBy t with dq := { s.dq with catchupCursor := i + 1 } }) ∧
      (s.dirtyAt i = false → i = 16895 →
        (s.dirtyCount = 0 → t.dq.catchup = false ∧ t.latched .catchupDone = true ∧ s.latchedOnly t [.catchupDone] ∧
          t = { s.followedBy t with req := { s.req with latch := t.req.latch } }) ∧
        (0 < s.dirtyCount → t = { s.followedBy t with dq := { s.dq with catchupCursor := 0 } }))

/-! ### The hello exchange and relation start -/

/-- R97, R119, R121, R122, R124, R126, R155, R162: a page received in HELLO; in BOOT it is discarded, as it is in DOWN, REFUSED and
LOOPBACK. Comply 0 refuses the link with PEER. A refusal is decided on by the arbiter in the same step, as a relation's end is. A page
below the one taken restarts the exchange, which then takes the page if it is a page 1. The peer's next page is taken if it agrees with
this side's own, and refused with LOCAL if not. A repeat of page 1 refreshes the peer's record and the acknowledgment. A page taken or
repeated that acknowledges this side's page, the peer's page of that number being taken, moves it on. A page out of step is ignored. That a
refusal drops what waits for the transmitter, and that the comply-0 page of a LOCAL refusal is still sent in REFUSED, is the model's
reading (assumption 33): R126 says only that REFUSED sends nothing. -/
def Obligations.HelloPagesTaken : Prop :=
  ∀ (s : State) (payload : List Byte) (p : HelloPage) (n : Nat) (acknowledges : Prop), s.resetLow = false →
    parseFrame payload = some (.hello p) → n = p.content.number →
    (acknowledges ↔ p.ackToggle = s.hello.toggle ∧ p.ackExchange = s.hello.exchange ∧ s.hello.ownPage ≤ n) →
    (s.port.link ≠ .hello → exec (.helloPageReceived payload) s = .next s) ∧
    (s.port.link = .hello → s.role = .boot → ∃ t, exec (.helloPageReceived payload) s = .next t ∧ t = s.followedBy t) ∧
    (s.port.link = .hello → s.role ≠ .boot → ∃ t, exec (.helloPageReceived payload) s = .next t ∧
      (p.comply = false → s.refusedIn t ⟨s.hello.ownPage, true⟩ ∧
        t.hello = { s.hello with refusal := some ⟨s.hello.ownPage, true⟩ } ∧
        t.port.tx = { Transmitter.initial with sending := s.port.tx.sending }) ∧
      (p.comply = true → n = s.hello.taken + 1 → ¬ s.pageAgrees p.content →
        s.refusedIn t ⟨n, false⟩ ∧
        t.hello = { s.hello with
          ackToggle := p.toggle
          comply := false
          refusal := some ⟨n, false⟩
          pacingSince := s.clock
          sentIdentity := t.hello.sentIdentity } ∧
        t.pageSent ⟨s.hello.toggle, p.toggle, false, true, s.hello.exchange, s.hello.ackExchange,
          s.pageContent s.hello.ownPage⟩ ∧
        t.port.tx = { Transmitter.initial with sending := t.port.tx.sending, hello := t.port.tx.hello }) ∧
      (p.comply = true → n = s.hello.taken + 1 → s.pageAgrees p.content → ¬ acknowledges →
        t = { s.followedBy t with hello := { s.hello with
          taken := n
          ackToggle := p.toggle
          ackExchange := p.exchange
          comply := true
          helloSince := s.clock
          peerIdentity := match p.content with
            | .identity i => some i
            | _ => s.hello.peerIdentity } }) ∧
      (p.comply = true → n = s.hello.taken + 1 → s.pageAgrees p.content → acknowledges → s.hello.ownPage < 4 →
        t.hello.ownPage = s.hello.ownPage + 1 ∧ t.hello.toggle = !s.hello.toggle ∧ t.hello.taken = n ∧
        t.hello.helloSince = s.clock ∧
        t.pageSent ⟨!s.hello.toggle, p.toggle, true, true, s.hello.exchange, p.exchange,
          s.pageContent (s.hello.ownPage + 1)⟩ ∧
        t = { s.followedBy t with hello := t.hello }) ∧
      (p.comply = true → n = s.hello.taken → ¬ acknowledges →
        t = { s.followedBy t with hello := match p.content with
          | .identity i => { s.hello with peerIdentity := some i, ackToggle := p.toggle, ackExchange := p.exchange }
          | _ => s.hello }) ∧
      (p.comply = true → n = s.hello.taken → acknowledges → s.hello.ownPage < 4 →
        t.hello.ownPage = s.hello.ownPage + 1 ∧ t.hello.toggle = !s.hello.toggle ∧ t.hello.taken = n ∧
        t.hello.helloSince = s.clock ∧
        (t.hello.peerIdentity, t.hello.ackToggle, t.hello.ackExchange) = (match p.content with
          | .identity i => (some i, p.toggle, p.exchange)
          | _ => (s.hello.peerIdentity, s.hello.ackToggle, s.hello.ackExchange)) ∧
        t.pageSent ⟨!s.hello.toggle, t.hello.ackToggle, s.hello.comply, true, s.hello.exchange, t.hello.ackExchange,
          s.pageContent (s.hello.ownPage + 1)⟩ ∧
        t = { s.followedBy t with hello := t.hello }) ∧
      (p.comply = true → s.hello.taken + 1 < n → t = s.followedBy t) ∧
      (p.comply = true → n < s.hello.taken → 1 < n → s.exchangeBegun t ∧ t = { s.followedBy t with hello := t.hello }) ∧
      (∀ i, p.comply = true → p.content = .identity i → 1 < s.hello.taken →
        t.hello.exchange = s.hello.exchange + 1 ∧
        (¬ s.pageAgrees p.content → s.refusedIn t ⟨1, false⟩ ∧
          t.pageSent ⟨false, p.toggle, false, true, s.hello.exchange + 1, s.hello.ackExchange, .identity s.identity⟩ ∧
          t.port.tx = { Transmitter.initial with sending := t.port.tx.sending, hello := t.port.tx.hello }) ∧
        (s.pageAgrees p.content →
          t.hello.taken = 1 ∧ t.hello.peerIdentity = some i ∧ t.hello.ackToggle = p.toggle ∧
          t.hello.ackExchange = p.exchange ∧ t.hello.helloSince = s.clock ∧
          (p.ackToggle = true ∨ p.ackExchange ≠ s.hello.exchange + 1 → t.hello.ownPage = 1 ∧ t.hello.toggle = false ∧
            t.pageSent ⟨false, true, true, true, s.hello.exchange + 1, s.hello.ackExchange, .identity t.identity⟩) ∧
          (p.ackToggle = false → p.ackExchange = s.hello.exchange + 1 → t.hello.ownPage = 2 ∧ t.hello.toggle = true ∧
            t.pageSent ⟨true, p.toggle, true, true, s.hello.exchange + 1, p.exchange, s.pageContent 2⟩) ∧
          t = { s.followedBy t with hello := t.hello })))

/-- R93, R100, R119, R121, R122, R128, R129, R150, R153, R157: the exchange completes on page 4, taken or repeated, with one more page if
the peer's says that more follow and with none if not. The relation starts, and the two page 1 records settle the roles. Only the loser of
a split writes its table, as a stand-down does, and nothing else moves. -/
def Obligations.RelationStarts : Prop :=
  ∀ (s : State) (payload : List Byte) (p : HelloPage) (interval : BitVec 16) (me peer : Identity)
    (mine theirs wins : Prop) (joins takes : Bool) (ack : Bool × Bool × Byte),
    s.resetLow = false → tableWf s.table = true → s.port.link = .hello → parseFrame payload = some (.hello p) →
    p.comply = true → p.content = .timers interval → s.hello.ownPage = 4 →
    (s.hello.taken = 3 ∧ interval.toNat = s.cfg.tickInterval ∧ ack = (p.toggle, true, p.exchange)) ∨
      (s.hello.taken = 4 ∧ ack = (s.hello.ackToggle, s.hello.comply, s.hello.ackExchange)) →
    p.ackToggle = s.hello.toggle → p.ackExchange = s.hello.exchange → s.hello.sentIdentity = some me →
    s.hello.peerIdentity = some peer → me.role = s.role → s.role ≠ .boot →
    (me.letter = 0 ∧ peer.letter = 1) ∨ (me.letter = 1 ∧ peer.letter = 0) →
    (mine ↔ me.role = .active ∨ me.role = .takeover ∨ me.role = .yielding) →
    (theirs ↔ peer.role = .active ∨ peer.role = .takeover ∨ peer.role = .yielding) →
    (wins ↔ ranksAbove me.health.toNat me.priority.toNat me.letter.toNat peer.health.toNat peer.priority.toNat
      peer.letter.toNat) →
    (takes ↔ ¬ mine ∧ ¬ theirs ∧ (peer.live.toNat < me.live.toNat ∨ (me.live = peer.live ∧ wins))) →
    (joins ↔ (¬ mine ∧ ¬ takes) ∨ (mine ∧ theirs ∧ ¬ wins)) →
    ∃ t, exec (.helloPageReceived payload) s = .next t ∧ t.beatPut ∧
      t.arb.peer = ⟨some peer.role, peer.health.toNat, peer.priority.toNat, peer.letter, peer.live.toNat, .idle, false,
        false⟩ ∧
      (p.more = true →
        t.pageSent ⟨s.hello.toggle, ack.1, ack.2.1, false, s.hello.exchange, ack.2.2, s.pageContent 4⟩) ∧
      (p.more = false → s.port.tx.sending ≠ none ∨ s.port.tx.hello = [] → t.port.tx.hello = s.port.tx.hello ∧
        ∀ q, t.port.tx.sending = some (.hello q) → s.port.tx.sending = some (.hello q)) ∧
      t.role = (if joins then .joining else if takes then .takeover else s.role) ∧
      (takes → t.arb.epoch = s.arb.epoch + 1 ∧ t.arb.takeoverTick = s.now ∧ t.arb.grace = s.cfg.grace ∧
        s.partialFollows t false) ∧
      (¬ takes → t.arb.epoch = s.arb.epoch ∧ t.arb.takeoverTick = s.arb.takeoverTick ∧ t.arb.grace = s.arb.grace ∧
        t.latched .partialTakeover = s.latched .partialTakeover) ∧
      (¬ joins → t.sweepStarted ∧ t.sweep = { s.sweep with state := .sweeping, cursor := 0 }) ∧
      (joins → ¬ mine → t.sweep = s.sweep ∧ t.port.sweepBegin = s.port.sweepBegin ∧ t.port.sweepEnd = s.port.sweepEnd ∧
        t.pool.laneMode = s.pool.laneMode) ∧
      (joins → mine → t.sweep = { s.sweep with state := .idle } ∧ t.pool.laneMode = s.pool.laneMode ∧
        (s.sweep.state ≠ .idle ∨ s.markersSound → t.port.sweepBegin = false ∧ t.port.sweepEnd = false)) ∧
      (¬ (joins ∧ mine) → t.table = s.table ∧ t.dq = (s.followedBy t).dq) ∧
      (joins ∧ mine → t.dq.entries = [] ∧ t.dq.catchup = false ∧ ∀ i, t.slot i = (s.slot i).stoodDown) ∧
      (t.latched .splitResolved = true ↔ s.latched .splitResolved = true ∨ (mine ∧ theirs)) ∧ t.latched .relationUp = true ∧
      (t.latched .lineFault = true ↔
        s.latched .lineFault = true ∨ s.monitor.cls = .silent ∨ s.monitor.cls = .garbled) ∧
      { s with arb := { s.arb with yieldTimer := none } }.roleChangeTaken t ∧ s.poolLowFollows t false ∧
      s.latchedOnly t [.relationUp, .lineFault, .roleChanged, .splitResolved, .partialTakeover, .poolLow] ∧
      t.hello = { s.hello with
        taken := 4, ackToggle := ack.1, comply := ack.2.1, ackExchange := ack.2.2
        helloSince := if s.hello.taken = 3 then s.clock else s.hello.helloSince
        pacingSince := if p.more then s.clock else s.hello.pacingSince } ∧
      t = { s.roleMoved t with
        table := t.table
        dq := t.dq
        arb := { (s.roleMoved t).arb with
          listen := none, yieldTimer := none, yieldTaken := false, peer := t.arb.peer, epoch := t.arb.epoch
          takeoverTick := t.arb.takeoverTick, grace := t.arb.grace }
        port := { (s.roleMoved t).port with
          link := .up, nextSeq := 0, inFlight := [], expected := 0, silence := some 0, sweepBegin := t.port.sweepBegin
          sweepEnd := t.port.sweepEnd }
        sweep := t.sweep
        pool := { s.pool with laneMode := t.pool.laneMode, armed := t.pool.armed } }

/-! ### Receiving -/

/-- R102, R103, R159: a BEAT taken while UP replaces every peer field and restarts the silence timer, and a peer in STANDBY sets the lane
mode OWN; one in any other role leaves it, unless its BEAT starts a sweep, which sets it. To a unit on the active side a peer that is not
on it calls for nothing else. -/
def Obligations.BeatReplacesPeerView : Prop :=
  ∀ (s : State) (payload : List Byte) (b : Beat), s.resetLow = false → s.up = true → s.port.applying = [] →
    parseFrame payload = some (.beat b) → ∃ t, exec (.beatReceived payload) s = .next t ∧
      t.arb.peer = ⟨some b.role, b.health.toNat, b.priority.toNat, if b.letter then 1 else 0, b.live.toNat, b.sweep,
        b.lagging, b.hold⟩ ∧
      t.port.silence = s.port.silence.map (fun _ => 0) ∧ (b.role = .standby → t.pool.laneMode = .own) ∧
      (b.role ≠ .standby → t.pool.laneMode = s.pool.laneMode ∨ t.sweepStarted) ∧ s.poolLowFollows t false ∧
      (s.role = .active ∨ s.role = .takeover ∨ s.role = .yielding →
        b.role ≠ .active ∧ b.role ≠ .takeover ∧ b.role ≠ .yielding →
        (b.role ≠ .standby → t.pool = s.pool) ∧ t = { s.followedBy t with
          arb := { (s.followedBy t).arb with peer := t.arb.peer }
          port := { (s.followedBy t).port with silence := t.port.silence }
          pool := { s.pool with laneMode := t.pool.laneMode, armed := t.pool.armed }
          req := { s.req with latch := t.req.latch } } ∧
        s.latchedOnly t [.poolLow])

/-- R93, R102 to R104, R130, R136, R159 to R161, R165: what a BEAT settles, by the standings it shows: a claim met in ACTIVE or TAKEOVER, a
relation without an active unit, and a yield that ends or meets another. In every other case, the ordinary BEAT of an active peer and the
normal end of a yield among them, it moves the peer fields, the silence timer and the lane mode only. What each case moves stands here, and
nothing else moves. -/
def Obligations.BeatSettlesSplits : Prop :=
  ∀ (s : State) (payload : List Byte) (b : Beat) (above claim : Prop)
    (crossed yielded takes sweeps stands : Bool),
    s.resetLow = false → tableWf s.table = true → s.up = true → s.port.applying = [] →
    parseFrame payload = some (.beat b) → (b.letter = true ↔ s.letter = .a) →
    (above ↔ ranksAbove s.arb.health s.cfg.priority (if s.letter = .a then 0 else 1) b.health.toNat b.priority.toNat
      (if b.letter then 1 else 0)) →
    (claim ↔ (s.role = .active ∨ s.role = .takeover) ∧
      (b.role = .active ∨ b.role = .takeover ∨ (b.role = .yielding ∧ s.arb.yieldTaken = false))) →
    (crossed ↔ s.role = .yielding ∧ b.role = .yielding) →
    (yielded ↔ s.role = .yielding ∧ (b.role = .active ∨ b.role = .takeover)) →
    (takes ↔ (s.role = .joining ∨ s.role = .standby) ∧ (b.role = .joining ∨ b.role = .standby) ∧ above) →
    (sweeps ↔ takes ∨ ((claim ∨ crossed) ∧ above)) → (stands ↔ (claim ∨ crossed) ∧ ¬ above) →
    ∃ t, exec (.beatReceived payload) s = .next t ∧
      t.arb.peer = ⟨some b.role, b.health.toNat, b.priority.toNat, if b.letter then 1 else 0, b.live.toNat, b.sweep,
        b.lagging, b.hold⟩ ∧
      t.role = (if stands then .joining else if takes then .takeover else if crossed then .active
        else if yielded then .standby else s.role) ∧
      (takes → { s with arb := { s.arb with peer := t.arb.peer } }.tookOver t false) ∧
      (¬ takes → t.arb = { (s.roleMoved t).arb with peer := t.arb.peer } ∧
        t.latched .partialTakeover = s.latched .partialTakeover) ∧
      (sweeps → t.sweepStarted ∧ t.sweep = { s.sweep with state := .sweeping, cursor := 0 } ∧
        t.port.inFlight = s.port.inFlight.map (fun f => { f with endsSweep := false })) ∧
      (stands → t.dq.entries = [] ∧ t.dq.catchup = false ∧ t.arb.healthHold = none ∧ t.sweep = { s.sweep with state := .idle } ∧
        (s.sweep.state ≠ .idle → t.port.sweepBegin = false ∧ t.port.sweepEnd = false ∧
          t.port.inFlight = s.port.inFlight.map (fun f => { f with endsSweep := false })) ∧
        (s.sweep.state = .idle → t.port.sweepBegin = s.port.sweepBegin ∧ t.port.sweepEnd = s.port.sweepEnd ∧
          t.port.inFlight = s.port.inFlight) ∧
        ∀ i, t.slot i = (s.slot i).stoodDown) ∧
      (¬ stands → t.table = s.table ∧ t.dq = (s.followedBy t).dq) ∧
      (¬ sweeps → ¬ stands → t.sweep = s.sweep ∧ t.port.sweepBegin = s.port.sweepBegin ∧
        t.port.sweepEnd = s.port.sweepEnd ∧ t.port.inFlight = s.port.inFlight) ∧
      t.pool.laneMode = (if sweeps ∨ b.role = .standby then .own else s.pool.laneMode) ∧
      (t.latched .splitResolved = true ↔ s.latched .splitResolved = true ∨ claim ∨ crossed) ∧
      (t.latched .yieldFailed = true ↔ s.latched .yieldFailed = true ∨ (crossed ∧ above)) ∧
      s.roleChangeTaken t ∧ s.exchangeFollows t ∧ (s.beatMatters ≠ t.beatMatters → t.beatPut) ∧ s.poolLowFollows t false ∧
      s.latchedOnly t [.roleChanged, .splitResolved, .yieldFailed, .partialTakeover, .poolLow] ∧
      t = { s.roleMoved t with
        table := t.table
        dq := t.dq
        arb := t.arb
        port := { (s.roleMoved t).port with
          inFlight := t.port.inFlight, silence := s.port.silence.map (fun _ => 0), sweepBegin := t.port.sweepBegin
          sweepEnd := t.port.sweepEnd }
        sweep := t.sweep
        pool := { s.pool with laneMode := t.pool.laneMode, armed := t.pool.armed } }

/-- R22, R23, R67, R69, R104, R109 to R112, R135, R164: a DELTA frame out of sequence is discarded, counted and answered with the unchanged
expected number. One in sequence is applied and answered with the next. A full record that is taken is written whole, binds its lane-region
port, and frees the LIVE record elsewhere with its key or its port and no other slot, their ports and the slot's old one released in that
order; a DELETE that is taken frees its slot at its version; a stale or duplicate record, one for no slot of the table, and a FILL on the
active side change nothing. SWEEP_BEGIN frees the table and makes the unit JOINING, unless it sweeps itself and stands higher; SWEEP_END
makes a JOINING unit STANDBY; YIELD makes a STANDBY unit that is not held enter TAKEOVER. Of a frame of several records the first is
applied, and the others one by one in steps that no command takes, so that other writes may come between; the frame is accepted and
answered after its last. That such a step applies a record is the model's choice (assumption 48). That both units latch SPLIT_RESOLVED at a
SWEEP_BEGIN between them, the one that ignores it too, is its reading (assumption 49), as is that a record of the key outside its bucket is
superseded too (assumption 47). -/
def Obligations.DeltaFramesApplied : Prop :=
  ∀ (s : State) (payload : List Byte) (seq : Byte) (ds : List Delta) (activeSide : Prop) (plain portsMoved : State → State),
    s.resetLow = false → tableWf s.table = true → s.up = true → s.port.applying = [] →
    parseFrame payload = some (.delta seq ds) →
    (activeSide ↔ s.role = .active ∨ s.role = .takeover ∨ s.role = .yielding) →
    (∀ u, plain u = { u with port := { u.port with
      expected := s.port.expected + 1, silence := s.port.silence.map (fun _ => 0) } }) →
    (∀ u, portsMoved u = { s.followedBy u with
      table := u.table
      dq := u.dq
      pool := { s.pool with bound := u.pool.bound, quarantine := u.pool.quarantine, armed := u.pool.armed }
      req := { s.req with
        latch := u.req.latch
        counters := { s.req.counters with quarantineEarly := u.req.counters.quarantineEarly } } }) →
    ∃ t, exec (.deltaReceived payload) s = .next t ∧
      (seq ≠ s.port.expected → t.ackSent s.port.expected ∧
        t = { s.followedBy t with
          port := { (s.followedBy t).port with silence := s.port.silence.map (fun _ => 0) }
          req := { s.req with counters := { s.req.counters with
            framesDiscarded := min 65535 (s.req.counters.framesDiscarded + 1) } } }) ∧
      (∀ d, seq = s.port.expected → ds = [d] → t.port.expected = s.port.expected + 1 ∧ t.ackSent (s.port.expected + 1)) ∧
      (∀ d i k, seq = s.port.expected → ds = [.full d] → i = d.slot.toNat → i < 16896 → k = d.key.normalise →
        ¬ (d.kind = .fill ∧ activeSide) →
        (s.slot i).body = .free ∨ 0 < (d.version - (s.slot i).version).toInt →
        t.slot i = ⟨d.version, .live {
          key := k, home := if i < 16384 then none else some (k.bucket s.cfg.seed), cls := d.cls, pinned := d.pinned
          deadline := s.now + d.remaining.zeroExtend 32, deadlineSent := s.now + d.remaining.zeroExtend 32
          lastTouch := s.now, rate := d.rate, stamp := s.now, baseEpoch := s.arb.epoch, seenEpoch := s.arb.epoch
          seenOut := false, seenIn := false, source := .peer, nat := d.nat, tcp := d.tcp.map (·.stored)
          marks := ⟨false, false, false⟩ }⟩ ∧
        (∀ j, j ≠ i → t.slot j = s.slot j ∨
          t.slot j = ⟨(s.slot j).version, .free⟩ ∧ ∃ r, (s.slot j).live? = some r ∧
            (r.key = k ∨ ∃ n, d.nat = some n ∧ r.nat = some n ∧ s.pool.serves n = true)) ∧
        (∀ j r, j ≠ i → (s.slot j).live? = some r →
          (r.key = k ∧ (∀ j' r', (s.slot j').live? = some r' → r'.key = k → j' = j ∨ j' = i)) ∨
          (∃ n, d.nat = some n ∧ r.nat = some n ∧ s.pool.serves n = true ∧
            ∀ j' r', (s.slot j').live? = some r' → r'.nat = some n → j' = j ∨ j' = i) →
          t.slot j = ⟨(s.slot j).version, .free⟩ ∧ (∀ e ∈ t.dq.entries, e.slot ≠ j) ∧
          ∀ n, r.nat = some n → d.nat ≠ some n → s.pool.sound → n ∉ t.pool.bound) ∧
        (∀ n, d.nat = some n → s.pool.serves n = true → t.pool.condition n = .bound) ∧
        (s.keysUnique → s.portsRewritten t i k d.nat) ∧
        t.dq.entries = s.dq.entries.filter (fun e => decide (e.slot ≠ i ∧ t.slot e.slot = s.slot e.slot)) ∧
        (∀ n : Fin 4, n.val < s.pool.addrCount →
          (s.pool.armed[n] = decide (s.cfg.poolLow ≤ s.freeCount n) → t.pool.armed[n] = decide (t.cfg.poolLow ≤ t.freeCount n)) ∧
          (s.pool.armed[n] = true → t.pool.armed[n] = false → t.latched .poolLow = true)) ∧
        s.latchedOnly t [.poolLow] ∧ t = plain (portsMoved t)) ∧
      (∀ d, seq = s.port.expected → ds = [.full d] →
        16896 ≤ d.slot.toNat ∨ (d.kind = .fill ∧ activeSide) ∨ ((s.slot d.slot.toNat).body ≠ .free ∧
          (d.version - (s.slot d.slot.toNat).version).toInt ≤ 0) → t = plain (s.followedBy t)) ∧
      (∀ slot v key r, seq = s.port.expected → ds = [.delete slot v key] → slot.toNat < 16896 →
        (s.slot slot.toNat).live? = some r → 0 ≤ (v - (s.slot slot.toNat).version).toInt →
        t.slot slot.toNat = ⟨v, .free⟩ ∧ (∀ j, j ≠ slot.toNat → t.slot j = s.slot j) ∧
        t.dq.entries = s.dq.entries.filter (fun e => decide (e.slot ≠ slot.toNat)) ∧ s.portReleased t r.nat ∧
        s.poolLowFollows t false ∧ s.latchedOnly t [.poolLow] ∧ t = plain (portsMoved t)) ∧
      (∀ slot v key, seq = s.port.expected → ds = [.delete slot v key] →
        16896 ≤ slot.toNat ∨ (s.slot slot.toNat).live? = none ∨ (v - (s.slot slot.toNat).version).toInt < 0 →
        t = plain (s.followedBy t)) ∧
      (∀ above : Prop, seq = s.port.expected → ds = [.sweepBegin] →
        (s.letter = .a ∧ s.arb.peer.letter = 1) ∨ (s.letter = .b ∧ s.arb.peer.letter = 0) →
        (above ↔ ranksAbove s.arb.health s.cfg.priority (if s.letter = .a then 0 else 1) s.arb.peer.health
          s.arb.peer.priority s.arb.peer.letter.toNat) →
        (activeSide → t.latched .splitResolved = true) ∧
        (¬ activeSide → t.latched .splitResolved = s.latched .splitResolved) ∧
        (activeSide ∧ s.sweep.state ≠ .idle ∧ above → s.latchedOnly t [.splitResolved] ∧
          t = plain { s.followedBy t with req := { s.req with latch := t.req.latch } }) ∧
        (¬ (activeSide ∧ s.sweep.state ≠ .idle ∧ above) →
          t.role = .joining ∧ (∀ i, t.slot i = ⟨(s.slot i).version, .free⟩) ∧ t.dq.entries = [] ∧
          t.pool = { s.pool with bound := [], quarantine := [], armed := t.pool.armed } ∧
          (activeSide → t.dq.catchup = false ∧ t.sweep = { s.sweep with state := .idle }) ∧
          (¬ activeSide → t.sweep = s.sweep) ∧
          (activeSide ∧ s.sweep.state ≠ .idle → t.port.sweepBegin = false ∧ t.port.sweepEnd = false ∧
            t.port.inFlight = s.port.inFlight.map (fun f => { f with endsSweep := false })) ∧
          (¬ activeSide ∨ s.sweep.state = .idle → t.port.sweepBegin = s.port.sweepBegin ∧
            t.port.sweepEnd = s.port.sweepEnd ∧ t.port.inFlight = s.port.inFlight) ∧
          s.roleChangeTaken t ∧ s.exchangeFollows t ∧ s.poolLowFollows t false ∧
          (s.beatMatters ≠ t.beatMatters → t.beatPut) ∧ s.latchedOnly t [.roleChanged, .splitResolved, .poolLow] ∧
          t = plain { s.roleMoved t with
            table := t.table
            dq := t.dq
            pool := t.pool
            sweep := t.sweep
            port := { (s.roleMoved t).port with
              inFlight := t.port.inFlight, sweepBegin := t.port.sweepBegin, sweepEnd := t.port.sweepEnd } })) ∧
      (seq = s.port.expected → ds = [.sweepEnd] →
        (s.role = .joining → t.role = .standby ∧ s.roleChangeTaken t ∧ s.exchangeFollows t ∧ t = plain (s.roleMoved t)) ∧
        (s.role ≠ .joining → t = plain (s.followedBy t))) ∧
      (seq = s.port.expected → ds = [.yieldMarker] →
        (s.role = .standby → s.arb.hold = false → s.tookOver t true ∧ s.exchangeFollows t ∧ t = plain { s.roleMoved t with
          arb := t.arb
          pool := { s.pool with laneMode := .own, armed := t.pool.armed } }) ∧
        (s.role ≠ .standby ∨ s.arb.hold = true → t = plain (s.followedBy t))) ∧
      (∀ v, seq = s.port.expected →
        step { s with pending := [], port := { s.port with silence := s.port.silence.map (fun _ => 0), applying := ds } } =
          .next v → t = { v with pending := s.pending }) ∧
      (∀ d rest v, seq = s.port.expected → ds = [d] → step { s with
          pending := [], port := { s.port with silence := s.port.silence.map (fun _ => 0), applying := d :: rest } } = .next v →
        rest ≠ [] → v = { t with
          pending := []
          port := { t.port with expected := s.port.expected, applying := rest, tx := v.port.tx } } ∧
        (s.port.tx.sending ≠ none → v.port.tx = { t.port.tx with acks := s.port.tx.acks }))

/-- R101, R105, R106, R134: an ACK retires the frames behind it, oldest first, with the effects of their records; one that names none of
them only restarts the silence timer. A sweep that completes, or a lagging flag that changes, puts a BEAT of the values as left. That an
entry goes with the slot that its retirement frees is the model's reading (assumption 46). -/
def Obligations.AckRetiresFrames : Prop :=
  ∀ (s : State) (payload : List Byte) (n : Byte) (d : Nat), s.resetLow = false → tableWf s.table = true → s.up = true →
    s.port.applying = [] → parseFrame payload = some (.ack n) →
    d = (match s.port.inFlight with
      | [] => 0
      | f :: _ => if (n - f.seq).toNat ≤ s.port.inFlight.length then (n - f.seq).toNat else 0) →
    ∃ t, exec (.ackReceived payload) s = .next t ∧
      t.port.inFlight = s.port.inFlight.drop d ∧
      (∀ i, let retired : Prop := (s.slot i).doomed? ≠ none ∧ ∃ f ∈ s.port.inFlight.take d, ∃ slot key,
          .delete slot (s.slot i).version key ∈ f.records ∧ slot.toNat = i
        (retired → t.slot i = ⟨(s.slot i).version, .free⟩ ∧ ∀ e ∈ t.dq.entries, e.slot ≠ i) ∧
        (¬ retired → t.slot i = s.slot i ∧ ∀ e ∈ s.dq.entries, e.slot = i → e ∈ t.dq.entries)) ∧
      t.dq.entries.Sublist s.dq.entries ∧
      (∀ f ∈ s.port.inFlight.take d, f.seq ∉ t.port.tx.resend) ∧
      (s.beatMatters ≠ t.beatMatters → t.beatPut) ∧
      ((∃ f ∈ s.port.inFlight.take d, f.endsSweep = true) → t.sweep.state = .idle ∧ t.latched .syncComplete = true) ∧
      ((∀ f ∈ s.port.inFlight.take d, f.endsSweep = false) → t.sweep.state = s.sweep.state ∧ t.req.latch = s.req.latch) ∧
      t = { s.followedBy t with
        table := t.table
        dq := t.dq
        port := { (s.followedBy t).port with
          inFlight := s.port.inFlight.drop d
          silence := s.port.silence.map (fun _ => 0) }
        sweep := { s.sweep with state := t.sweep.state }
        req := { s.req with latch := t.req.latch } }

/-- R98, R115, R194: a pair frame that fails the frame check or its kind's form is counted and does nothing else; a frame of another type,
or from a cable cut off in LOOPBACK, is not even counted. That it is counted in every link state but LOOPBACK, DOWN and REFUSED included,
is the model's reading (assumption 38). -/
def Obligations.FrameRejectedIsCounted : Prop :=
  ∀ (s : State) (etherType : BitVec 16) (checkOk : Bool) (payload : List Byte), s.resetLow = false →
    (etherType = 34998 → s.port.link ≠ .loopback → checkOk = false ∨ parseFrame payload = none →
      exec (.frameRejected etherType checkOk true payload) s = .next { s with req := { s.req with counters :=
        { s.req.counters with framesDiscarded := min 65535 (s.req.counters.framesDiscarded + 1) } } }) ∧
    (etherType = 34998 → s.port.link = .loopback → checkOk = false →
      exec (.frameRejected etherType checkOk false payload) s = .next { s with req := { s.req with counters :=
        { s.req.counters with framesDiscarded := min 65535 (s.req.counters.framesDiscarded + 1) } } }) ∧
    (etherType ≠ 34998 ∨ s.port.link = .loopback →
      exec (.frameRejected etherType checkOk true payload) s = .next s)

/-! ### Loop tests -/

/-- R115, R116, R194: the loop tests begin where their role or link admits them, with probes 0 to 63 put to the transmitter. That an
outbound probe of an earlier test, still in transmission, is told apart from the test's own is the model's reading (assumption 9).That
INTERNAL drops what waited, so that probe 0 is in transmission at once where the transmitter is idle, is its choice (assumptions 50 and 7).
-/
def Obligations.LoopTestsBegin : Prop :=
  ∀ (s : State) (r : Request) (earlier : Bool), s.canBegin r 8 1 →
    (earlier = true ↔ ∃ p, s.port.tx.sending = some (.probe p) ∧ p.direction = 0) →
    (r.word 0 = 0 → s.role = .boot → ∃ t, exec .loopTestInternal s = .next t ∧ t.probesPut ∧
      t.port.tx.outbound.length = (if s.port.tx.sending = none then 63 else 64) ∧
      t = { s.followedBy t with
        port := { (s.followedBy t).port with link := .loopback }
        req := { s.req with queue := s.req.queue.tail, running := some ⟨r.tag, false, 0, [], none, earlier⟩ } }) ∧
    (r.word 0 = 0 → s.role ≠ .boot → ∃ t, exec .loopTestInternal s = .next t ∧ t = (s.followedBy t).answered r .notReady []) ∧
    (r.word 0 = 1 → s.up = true → ∃ t, exec .loopTestFar s = .next t ∧ t.probesPut ∧
      (s.port.tx.sending ≠ none → t.port.tx.outbound.length = 64) ∧
      t = { s.followedBy t with
        req := { s.req with queue := s.req.queue.tail, running := some ⟨r.tag, true, 0, [], none, earlier⟩ } }) ∧
    (r.word 0 = 1 → s.up = false → ∃ t, exec .loopTestFar s = .next t ∧ t = (s.followedBy t).answered r .notReady [])

/-- R96, R99, R115, R116: an outbound probe taken while UP goes back marked returned, where it waits among the returned ones in the order
of their numbers, and an intact one that has come back, from the cable while UP and from the internal loop in LOOPBACK, is counted once for
its number; with no test running it only restarts the silence timer. In LOOPBACK a probe from the cable, marked returned or outbound,
changes nothing. That the direction tells a probe of the internal loop from one of the cable is the model's reading (assumption 52). A test
completes with its counts at the 64th it counts, and 100 ms after its first probe was sent. That a FAR test's count sent is the number of
its transmissions that have ended is the model's reading (assumption 9). -/
def Obligations.ProbesReturnedAndCounted : Prop :=
  ∀ (s : State) (payload : List Byte) (p : Probe) (phase : Nat) (ended : LoopTest → List Nat → State → State),
    s.resetLow = false → s.port.applying = [] → parseFrame payload = some (.probe p) →
    (∀ u counted t, ended u counted t = { t with
      port := { t.port with
        link := if s.port.link = .loopback then (if s.port.carrier then .hello else .down) else s.port.link }
      req := { s.req with
        running := none
        completions := s.req.completions ++
          [⟨8, .ok, u.tag, [numWord (if u.far then u.sent else 64), numWord counted.length]⟩]
        latch := s.req.latch ||| 16384 } }) →
    (s.up = true → p.direction = 0 → ∃ t, exec (.probeOutboundReceived payload) s = .next t ∧
      (∀ line : List Probe, line = s.port.tx.returned.takeWhile (fun q => decide (q.number.toNat ≤ p.number.toNat)) ++
          { p with direction := 1 } :: s.port.tx.returned.dropWhile (fun q => decide (q.number.toNat ≤ p.number.toNat)) →
        t.port.tx.returned = line ∨
          (s.port.tx.sending = none ∧ ∃ q, t.port.tx.sending = some (.probe q) ∧ line = q :: t.port.tx.returned)) ∧
      t = { s.followedBy t with
        port := { (s.followedBy t).port with silence := s.port.silence.map (fun _ => 0) } }) ∧
    (∀ u silence, s.req.running = some u → (s.up = true ∧ p.direction = 1) ∨ (s.port.link = .loopback ∧ p.direction = 0) →
      silence = (if s.up then s.port.silence.map (fun _ => 0) else s.port.silence) → ∃ t,
      exec (.probeReturned payload) s = .next t ∧
      (p.number.toNat < 64 ∧ p.pattern = (List.range 32).map (fun j => BitVec.ofNat 8 (p.number.toNat * 4 + j)) ∧
          p.number.toNat ∉ u.counted →
        (u.counted.length < 63 → t = { s.followedBy t with
          port := { (s.followedBy t).port with silence := silence }
          req := { s.req with running := some { u with counted := u.counted ++ [p.number.toNat] } } }) ∧
        (u.counted.length = 63 → t = ended u (u.counted ++ [p.number.toNat])
          { s.followedBy t with port := { (s.followedBy t).port with silence := silence } })) ∧
      (64 ≤ p.number.toNat ∨ p.pattern ≠ (List.range 32).map (fun j => BitVec.ofNat 8 (p.number.toNat * 4 + j)) ∨
          p.number.toNat ∈ u.counted → u.counted.length < 64 →
        t = { s.followedBy t with port := { (s.followedBy t).port with silence := silence } })) ∧
    (s.port.link = .loopback → p.direction ≠ 0 → exec (.probeReturned payload) s = .next s) ∧
    (s.port.link = .loopback → exec (.probeOutboundReceived payload) s = .next s) ∧
    (s.up = true → p.direction = 1 → s.req.running = none → ∃ t, exec (.probeReturned payload) s = .next t ∧
      t = { s.followedBy t with
        port := { (s.followedBy t).port with silence := s.port.silence.map (fun _ => 0) } }) ∧
    (∀ u since, s.req.running = some u → u.since = some since → since + 2500000 ≤ (s.atPhase phase).clock →
      ∃ t, exec (.loopTestTimeout phase) s = .next t ∧
        t = ended u u.counted { s.followedBy t with clock := (s.atPhase phase).clock })

/-! ### The role line -/

/-- R141 to R146, R155, R162: what an alignment edge, ALIGNED or UNALIGNED, closes or begins, what ends a repetition or a period without
one, what each leaves of the runs and the class, and what is counted. A change of class latches LINE_FAULT while a relation is UP, if it is
to SILENT or GARBLED, and without one is handed to the arbiter, which makes the peer-loss decision or the line rule. That the silence
timer, once expired, stands until the next rising edge is the model's reading (assumption 29). -/
def Obligations.LineMonitorJudges : Prop :=
  ∀ (s : State) (phase c : Nat) (unmatched : Monitor) (counted : Nat), s.resetLow = false →
    c = (s.atPhase phase).clock →
    unmatched = (if s.monitor.missRun < 2 then { s.monitor with matchCount := 0, missRun := s.monitor.missRun + 1 }
      else { s.monitor with matchCount := 0, missRun := 3, cls := .garbled }) →
    counted = min 65535 (s.req.counters.lineGarbled + 1) →
    (∀ lowRun t0, 350000 ≤ lowRun → s.monitor.alignment = .aligned t0 → ∃ t,
      exec (.lineRepetitionJudged phase lowRun) s = .next t ∧ s.readingTaken t c ∧
      (∀ p : LinePattern, s.monitor.samples = p.bits → 1150000 ≤ c - t0 → c - t0 ≤ 1250000 →
        t.monitor = { s.monitor with
          alignment := .aligned c, samples := [], edgeSeen := false, lastRise := some c, matchPattern := p, missRun := 0
          matchCount := if s.monitor.matchPattern = p ∧ 0 < s.monitor.matchCount then 2 else 1
          cls := if s.monitor.matchPattern = p ∧ 0 < s.monitor.matchCount then p.toClass else s.monitor.cls } ∧
        t.req.counters = s.req.counters) ∧
      ((∀ p : LinePattern, s.monitor.samples ≠ p.bits) ∨ c - t0 < 1150000 ∨ 1250000 < c - t0 →
        t.monitor = { unmatched with alignment := .aligned c, samples := [], edgeSeen := false, lastRise := some c } ∧
        t.req.counters = { s.req.counters with lineGarbled := counted })) ∧
    (∀ lowRun t0, 350000 ≤ lowRun → s.monitor.alignment = .unaligned t0 → ∃ t,
      exec (.lineRepetitionJudged phase lowRun) s = .next t ∧
      t = { s.followedBy t with clock := c, monitor := { s.monitor with
        alignment := .aligned c, samples := [], edgeSeen := false, lastRise := some c } }) ∧
    (∀ t0, s.monitor.alignment = .aligned t0 → t0 + 1250000 ≤ c → ∃ t,
      exec (.repetitionClosureTimeout phase) s = .next t ∧ s.readingTaken t c ∧
      t.monitor = { unmatched with alignment := .unaligned c, samples := [], edgeSeen := false } ∧
      t.req.counters = { s.req.counters with lineGarbled := counted }) ∧
    (∀ t0, s.monitor.alignment = .unaligned t0 → t0 + 1200000 ≤ c → ∃ t, exec (.unalignedPeriodEnd phase) s = .next t ∧
      (s.monitor.edgeSeen = false → t = { s.followedBy t with
        clock := c
        monitor := { s.monitor with alignment := .unaligned c, samples := [] } }) ∧
      (s.monitor.edgeSeen = true → s.readingTaken t c ∧
        t.monitor = { unmatched with alignment := .unaligned c, samples := [], edgeSeen := false } ∧
        t.req.counters = { s.req.counters with lineGarbled := counted })) ∧
    (∀ rise, s.monitor.lastRise = some rise → rise + 3000000 ≤ c → ∃ t, exec (.lineSilenceTimeout phase) s = .next t ∧
      s.readingTaken t c ∧ t.req.counters = s.req.counters ∧
      t.monitor = { s.monitor with
        cls := .silent, alignment := .unaligned c, samples := [], edgeSeen := false, matchCount := 0, missRun := 0
        lastRise := none })

/-- R138 to R142, R144: any other rising edge restarts the silence timer and is seen in an unaligned period, a sample is stored at 2, 6, …
30 ms, and the driver sends its bits 4 ms apart, a low run beginning with the first low bit after a high one, the first of a new pattern
once the line has been low for 16 ms. A command that changes the driver's pattern drives the line low at once, a low run in progress
counting on, and the new pattern begins at once on a line that has been low for 16 ms. A command that does not change it, a change between
roles of one pattern among them, leaves the waveform to go on without a break. Both are said of every command but a frame received while a
DELTA frame is in progress, whose markers can change the pattern twice in one step, and the power coming on; the second not of the driver's
own bit times and the other resets either. -/
def Obligations.LineEdgesSamplesAndBits : Prop :=
  ∀ (s : State) (phase c : Nat), s.resetLow = false → c = (s.atPhase phase).clock →
    (∀ lowRun, lowRun < 350000 → ∃ t, exec (.lineRisingEdge phase lowRun) s = .next t ∧
      t = { s.followedBy t with clock := c, monitor := { s.monitor with
        lastRise := some c
        edgeSeen := match s.monitor.alignment with
          | .unaligned _ => true
          | .aligned _ => s.monitor.edgeSeen } }) ∧
    (∀ t0 level, s.monitor.alignment = .aligned t0 → s.monitor.samples.length < 8 →
      c = t0 + 50000 + 100000 * s.monitor.samples.length → ∃ t, exec (.midBitSample phase level) s = .next t ∧
        t = { s.followedBy t with clock := c, monitor := { s.monitor with samples := s.monitor.samples ++ [level] } }) ∧
    (∀ p i, s.driver.pattern = some p → s.driver.bit = some i → i < 12 → s.driver.bitSince + 100000 ≤ c → ∃ t,
      exec (.driverBitTime phase) s = .next t ∧ t.driver.bit = some (if i = 11 then 0 else i + 1) ∧
      t.driver.bitSince = s.driver.bitSince + 100000 ∧
      t.driver.level = p.bits.getD (if i = 11 then 0 else i + 1) false ∧
      (t.driver.level = true → t.driver.lowSince = none) ∧
      (t.driver.level = false → s.driver.level = true → t.driver.lowSince = some t.driver.bitSince) ∧
      (∀ low, t.driver.level = false → s.driver.level = false → s.driver.lowSince = some low →
        t.driver.lowSince = some low) ∧
      t = { s.followedBy t with clock := c, driver := { t.driver with pattern := some p } }) ∧
    (∀ p low, s.driver.pattern = some p → s.driver.bit = none → s.driver.lowSince = some low → low + 400000 ≤ c → ∃ t,
      exec (.driverBitTime phase) s = .next t ∧
      t = { s.followedBy t with clock := c, driver := ⟨some p, some 0, low + 400000, none⟩ }) ∧
    (∀ (command : Instr) (t : State) (low : Nat), exec command s = .next t → s.lineFollowsRole →
      t.driver.pattern ≠ s.driver.pattern → ¬ s.finishesFrame (some command) →
      (match command with
        | .powerOn _ => False
        | _ => True) →
      (if s.driver.level then low = t.clock else s.driver.lowSince = some low) →
      (t.driver.pattern = none ∨ t.clock < low + 400000 →
        t.driver.level = false ∧ t.driver.bit = none ∧ t.driver.lowSince = some low) ∧
      (∀ p, t.driver.pattern = some p → low + 400000 ≤ t.clock → t.driver = ⟨some p, some 0, t.clock, none⟩)) ∧
    (∀ (command : Instr) (t : State), exec command s = .next t → s.lineFollowsRole → t.driver.pattern = s.driver.pattern →
      ¬ s.finishesFrame (some command) →
      (match command with
        | .powerOn _ | .hardReset | .resetRelease _ | .driverBitTime _ => False
        | _ => True) → t.driver = s.driver)

/-! ### Table requests -/

/-- R66: ALLOCATE gives the first port, from the cursor up and round the lane region, that lies in a usable lane and is free, and none when
there is no such port. -/
def Obligations.AllocateFindsFirst : Prop :=
  ∀ (p : Pool) (letter : UnitLetter) (index : BitVec 2) (start region cursor : Nat) (port : Nat → Nat) (fits : Nat → Prop),
    p.staticBlocks ≤ 64 → start = 1024 + 64 * p.staticBlocks → region = 65536 - start →
    cursor = p.cursors[index.toNat]'(index.isLt) → start ≤ cursor → cursor ≤ 65535 →
    (∀ k, port k = start + (cursor - start + k) % region) →
    (∀ n, fits n ↔ (p.laneMode = .both ∨ letter = if (n - start) / 64 % 2 = 0 then .a else .b) ∧
      ⟨index, BitVec.ofNat 16 n⟩ ∉ p.bound ∧ ∀ q ∈ p.quarantine, q.port ≠ ⟨index, BitVec.ofNat 16 n⟩) →
    match p.allocate letter index with
    | some n => ∃ k < region, n = port k ∧ fits n ∧ ∀ j < k, ¬ fits (port j)
    | none => ∀ k < region, ¬ fits (port k)

/-- R11, R14, R65, R66: an INSERT that passes its checks places the record in the slot R11 chooses, binds the port its NAT option asks for,
and offers a CREATE; an ALLOCATE moves its address's cursor to the port after. The presence word before the port in the result is the
model's reading (assumption 19). -/
def Obligations.InsertPlacesRecord : Prop :=
  ∀ (s : State) (r : Request) (o : InsertOperands) (k : Key) (i : Nat) (nat : Option NatPart) (v deadline : Word),
    s.canBegin r 1 6 ∨ s.canBegin r 1 13 → tableWf s.table = true → s.role = .active ∨ s.role = .takeover →
    o = r.insertOperands → (o.tcp.isSome = true ↔ o.key.protocol = 6) → k = o.key.normalise → s.absent k →
    s.chosenFor (k.bucket s.cfg.seed) i → s.entryKind i = none → v = (s.slot i).version + 1 →
    deadline = s.now + BitVec.ofNat 32 (s.cfg.timeouts[o.cls.toNat]'(o.cls.isLt)) →
    (o.natOption = 0 ∧ nat = none ∨
      o.natOption = 1 ∧ o.nat.index.toNat < s.cfg.addrCount ∧
        (∃ port, s.pool.allocate s.letter o.nat.index = some port ∧ nat = some ⟨o.nat.index, BitVec.ofNat 16 port⟩) ∨
      o.natOption = 2 ∧ o.nat.index.toNat < s.cfg.addrCount ∧ 1024 ≤ o.nat.port.toNat ∧ nat = some o.nat ∧
        (s.pool.serves o.nat = true → s.pool.condition o.nat = .free)) →
    ∃ t, exec .insert s = .next t ∧
      s.completed t r .ok ([BitVec.ofNat 32 i, v] ++ (match nat with
        | some n => [1, n.port.zeroExtend 32]
        | none => [0, 0])) ∧
      t.slot i = ⟨v, .live {
        key := k, home := if i < 16384 then none else some (k.bucket s.cfg.seed), cls := o.cls, pinned := o.pinned
        deadline := deadline, deadlineSent := deadline, lastTouch := s.now, rate := 0, stamp := s.now
        baseEpoch := s.arb.epoch, seenEpoch := s.arb.epoch, seenOut := false, seenIn := false, source := .loc
        nat := nat, tcp := o.tcp.map (·.stored)
        marks := if s.up then ⟨decide (s.dq.entries.length < 1024), decide (1024 ≤ s.dq.entries.length), false⟩
          else ⟨false, false, false⟩ }⟩ ∧
      (∀ j, j ≠ i → t.slot j = s.slot j) ∧
      t.dq.entries = (if s.up = true ∧ s.dq.entries.length < 1024 then s.dq.entries ++ [⟨i, .create⟩] else s.dq.entries) ∧
      s.offerCounted t i ∧
      (∀ n, t.pool.condition n =
        if nat = some n ∧ (o.natOption = 1 ∨ s.pool.serves n = true) then .bound else s.pool.condition n) ∧
      (o.natOption ≠ 1 → t.pool.cursors = s.pool.cursors) ∧
      (∀ n, o.natOption = 1 → nat = some n → ∀ j : Fin 4, t.pool.cursors[j] =
        if j.val = n.index.toNat then (if n.port = 65535 then 1024 + 64 * s.pool.staticBlocks else n.port.toNat + 1)
        else s.pool.cursors[j]) ∧
      s.poolLowFollows t false ∧ s.latchedOnly t [.completionReady, .queueOverflow, .poolLow] ∧
      t = { s.followedBy t with
        table := t.table
        dq := t.dq
        pool := { s.pool with
          bound := t.pool.bound, quarantine := t.pool.quarantine, cursors := t.pool.cursors, armed := t.pool.armed }
        req := { s.req with
          queue := t.req.queue
          completions := t.req.completions
          latch := t.req.latch
          counters := { s.req.counters with overflowMarks := t.req.counters.overflowMarks } } }

/-- R13: each check of INSERT, in its order, refuses with its status and changes no slot, port or queue. That EXISTS gives the binding as a
presence word, an index and a port is the model's reading (assumption 19). -/
def Obligations.InsertRefused : Prop :=
  ∀ (s : State) (r : Request) (o : InsertOperands) (k : Key) (malformed : Prop), s.canBegin r 1 6 ∨ s.canBegin r 1 13 →
    tableWf s.table = true → o = r.insertOperands → k = o.key.normalise →
    (malformed ↔ ¬ (o.tcp.isSome = true ↔ o.key.protocol = 6) ∨ o.natOption = 3 ∨
      (o.natOption ≠ 0 ∧ s.cfg.addrCount ≤ o.nat.index.toNat) ∨ (o.natOption = 2 ∧ o.nat.port.toNat < 1024)) →
    ∃ t, exec .insert s = .next t ∧
      (s.role ≠ .active → s.role ≠ .takeover → t = (s.followedBy t).answered r .notActive []) ∧
      (s.role = .active ∨ s.role = .takeover →
        (malformed → t = (s.followedBy t).answered r .badRequest []) ∧
        (∀ i q, ¬ malformed → s.findable k i q →
          t = (s.followedBy t).answered r .exists_ ([BitVec.ofNat 32 i, (s.slot i).version] ++ (match q.nat with
            | some n => [1, n.index.zeroExtend 32, n.port.zeroExtend 32]
            | none => [0, 0, 0]))) ∧
        (¬ malformed → s.absent k → (∀ i, ¬ s.chosenFor (k.bucket s.cfg.seed) i) →
          t = (s.followedBy t).answered r .tableFull []) ∧
        (∀ i, ¬ malformed → s.absent k → s.chosenFor (k.bucket s.cfg.seed) i →
          (o.natOption = 1 → s.pool.allocate s.letter o.nat.index = none →
            t = (s.followedBy t).answered r .poolEmpty []) ∧
          (o.natOption = 2 → s.pool.serves o.nat = true → s.pool.condition o.nat ≠ .free →
            t = (s.followedBy t).answered r .portTaken [])))

/-- R15, R16, R32, R193: LOOKUP reports the one LIVE record with the key, and READ_SLOT a slot whole, whatever its state; neither changes
any other state. The list of words (a home word, presence words) and the codes of slot state and source are the model's reading
(assumptions 19 and 20). -/
def Obligations.LookupAndReadSlotReport : Prop :=
  ∀ (s : State) (r : Request) (k : Key) (i : Nat), tableWf s.table = true → k = (r.key 0).normalise →
    i = (r.word 0).toNat % 65536 →
    (s.canBegin r 2 4 →
      (s.role = .boot → exec .lookup s = .next (s.answered r .notReady [])) ∧
      (s.role ≠ .boot → s.absent k → exec .lookup s = .next (s.answered r .noSession [])) ∧
      (∀ j q, s.role ≠ .boot → s.findable k j q → exec .lookup s = .next (s.answered r .ok ([
        BitVec.ofNat 32 j, (s.slot j).version, q.cls.zeroExtend 32, if q.source = .loc then 0 else 1,
        if q.tcp ≠ none ∧ s.role = .takeover ∧ q.baseEpoch ≠ s.arb.epoch ∧
          ¬ (q.seenEpoch = s.arb.epoch ∧ q.seenOut = true ∧ q.seenIn = true) then 1 else 0] ++
        (match q.nat with
          | some n => [1, n.index.zeroExtend 32, n.port.zeroExtend 32]
          | none => [0, 0, 0]))))) ∧
    (s.canBegin r 3 1 →
      (16896 ≤ i → exec .readSlot s = .next (s.answered r .badSlot [])) ∧
      (i < 16896 → (s.slot i).body = .free →
        exec .readSlot s = .next (s.answered r .ok ([0, (s.slot i).version] ++ List.replicate 31 0))) ∧
      (∀ q, i < 16896 → (s.slot i).body = .live q ∨ (s.slot i).body = .doomed q →
        exec .readSlot s = .next (s.answered r .ok ([
          if (s.slot i).body = .live q then 1 else 2, (s.slot i).version, q.key.insideAddr, q.key.outsideAddr,
          q.key.insidePort ++ q.key.outsidePort, (0#20 ++ q.key.zone) ++ q.key.protocol, BitVec.ofNat 32 (q.home.getD 0),
          q.cls.zeroExtend 32, if q.pinned then 1 else 0, q.deadline, q.deadlineSent, q.lastTouch, q.rate.zeroExtend 32,
          q.stamp, q.baseEpoch.zeroExtend 32, q.seenEpoch.zeroExtend 32, if q.seenOut then 1 else 0,
          if q.seenIn then 1 else 0, if q.source = .loc then 0 else 1] ++
          (match q.nat with
            | some n => [1, n.index.zeroExtend 32, n.port.zeroExtend 32]
            | none => [0, 0, 0]) ++
          (match q.tcp with
            | some p => [1, p.outDir.edge, p.outDir.wend, p.outDir.maxwin, p.inDir.edge, p.inDir.wend, p.inDir.maxwin,
              0#16 ++ p.inDir.scale ++ p.outDir.scale]
            | none => [0, 0, 0, 0, 0, 0, 0, 0]) ++
          [if q.marks.queued then 1 else 0, if q.marks.dirty then 1 else 0, if q.marks.owed then 1 else 0]))))

/-- R8, R9, R17: UPDATE, its checks in order, and on success the given fields written, the version bumped and a CHANGE offered. -/
def Obligations.UpdateWritesGivenFields : Prop :=
  ∀ (s : State) (r : Request) (o : UpdateOperands) (i : Nat), s.canBegin r 4 8 → tableWf s.table = true →
    o = r.updateOperands → i = o.slot → ∃ t, exec .update s = .next t ∧
      (s.role ≠ .active → s.role ≠ .takeover → t = (s.followedBy t).answered r .notActive []) ∧
      (s.role = .active ∨ s.role = .takeover →
        (16896 ≤ i → t = (s.followedBy t).answered r .badSlot []) ∧
        (i < 16896 →
          (o.natGiven = true ∨ (o.cls = none ∧ o.pinned = none ∧ o.scales = none ∧ o.snapshot = none) →
            t = (s.followedBy t).answered r .badRequest []) ∧
          (o.natGiven = false → o.cls ≠ none ∨ o.pinned ≠ none ∨ o.scales ≠ none ∨ o.snapshot ≠ none →
            ((s.slot i).live? = none → t = (s.followedBy t).answered r .noSession []) ∧
            ∀ q, (s.slot i).live? = some q →
              (∀ x, o.expected = some x → x ≠ (s.slot i).version →
                t = (s.followedBy t).answered r .staleVersion [(s.slot i).version]) ∧
              ((∀ x, o.expected = some x → x = (s.slot i).version) →
                (q.tcp = none → o.scales ≠ none ∨ o.snapshot ≠ none → t = (s.followedBy t).answered r .notTcp []) ∧
                (q.tcp ≠ none ∨ (o.scales = none ∧ o.snapshot = none) →
                  s.completed t r .ok [BitVec.ofNat 32 i, (s.slot i).version + 1] ∧
                  t.slot i = ⟨(s.slot i).version + 1, .live { q with
                    cls := o.cls.getD q.cls
                    deadline := match o.cls with
                      | some c => s.now + BitVec.ofNat 32 (s.cfg.timeouts[c.toNat]'(c.isLt))
                      | none => q.deadline
                    pinned := o.pinned.getD q.pinned
                    tcp := q.tcp.map (fun p => {
                      outDir := { p.outDir with
                        scale := (o.scales.map (fun x => if 14 < x.1.toNat then 14 else x.1)).getD p.outDir.scale
                        edge := (o.snapshot.map (·.edgeOut)).getD p.outDir.edge
                        wend := (o.snapshot.map (·.wendOut)).getD p.outDir.wend }
                      inDir := { p.inDir with
                        scale := (o.scales.map (fun x => if 14 < x.2.toNat then 14 else x.2)).getD p.inDir.scale
                        edge := (o.snapshot.map (·.edgeIn)).getD p.inDir.edge
                        wend := (o.snapshot.map (·.wendIn)).getD p.inDir.wend } })
                    stamp := if o.snapshot = none then q.stamp else s.now
                    baseEpoch := if o.snapshot = none then q.baseEpoch else s.arb.epoch
                    seenEpoch := if o.snapshot = none then q.seenEpoch else s.arb.epoch
                    seenOut := if o.snapshot = none then q.seenOut else false
                    seenIn := if o.snapshot = none then q.seenIn else false
                    marks := if s.up then s.marksAfterOffer i q.marks else q.marks }⟩ ∧
                  (∀ j, j ≠ i → t.slot j = s.slot j) ∧
                  t.dq.entries = (if s.up then s.entriesAfterChange i else s.dq.entries) ∧ s.offerCounted t i ∧
                  s.latchedOnly t [.completionReady, .queueOverflow] ∧
                  t = { s.followedBy t with
                    table := t.table
                    dq := t.dq
                    req := { s.req with
                      queue := t.req.queue
                      completions := t.req.completions
                      latch := t.req.latch
                      counters := { s.req.counters with
                        deltasCoalesced := t.req.counters.deltasCoalesced
                        overflowMarks := t.req.counters.overflowMarks } } })))))

/-- R18, R45, R84: TOUCH moves the deadline, smooths the rate, writes a given snapshot and bumps the version; while UP it queues a REFRESH
or sets refresh-owed. -/
def Obligations.TouchKeepsAlive : Prop :=
  ∀ (s : State) (r : Request) (o : TouchOperands) (i : Nat), s.canBegin r 5 6 → tableWf s.table = true →
    o = r.touchOperands → i = o.slot → ∃ t, exec .touch s = .next t ∧
      (s.role ≠ .active → s.role ≠ .takeover → t = (s.followedBy t).answered r .notActive []) ∧
      (s.role = .active ∨ s.role = .takeover → 16896 ≤ i → t = (s.followedBy t).answered r .badSlot []) ∧
      (s.role = .active ∨ s.role = .takeover → i < 16896 → (s.slot i).live? = none →
        t = (s.followedBy t).answered r .noSession []) ∧
      ∀ q timeout deadline, s.role = .active ∨ s.role = .takeover → i < 16896 → (s.slot i).live? = some q →
        timeout = s.cfg.timeouts[q.cls.toNat]'(q.cls.isLt) → deadline = s.now + BitVec.ofNat 32 timeout →
        (q.tcp = none → o.snapshot ≠ none → t = (s.followedBy t).answered r .notTcp []) ∧
        (q.tcp ≠ none ∨ o.snapshot = none →
          s.completed t r .ok [BitVec.ofNat 32 i, (s.slot i).version + 1] ∧
          (∃ marks, t.slot i = ⟨(s.slot i).version + 1, .live { q with
              deadline := deadline
              rate := BitVec.ofNat 16
                ((7 * q.rate.toNat + min 65535 (o.bytes.toNat / max 1 (s.now - q.lastTouch).toNat)) / 8)
              lastTouch := s.now
              tcp := q.tcp.map (fun p => {
                outDir := { p.outDir with
                  edge := (o.snapshot.map (·.edgeOut)).getD p.outDir.edge
                  wend := (o.snapshot.map (·.wendOut)).getD p.outDir.wend }
                inDir := { p.inDir with
                  edge := (o.snapshot.map (·.edgeIn)).getD p.inDir.edge
                  wend := (o.snapshot.map (·.wendIn)).getD p.inDir.wend } })
              stamp := if o.snapshot = none then q.stamp else s.now
              baseEpoch := if o.snapshot = none then q.baseEpoch else s.arb.epoch
              seenEpoch := if o.snapshot = none then q.seenEpoch else s.arb.epoch
              seenOut := if o.snapshot = none then q.seenOut else false
              seenIn := if o.snapshot = none then q.seenIn else false
              marks := marks }⟩ ∧
            (s.up = false → marks = q.marks ∧ t.dq.entries = s.dq.entries ∧ t.req.counters = s.req.counters) ∧
            (s.up = true → (deadline - q.deadlineSent).toInt < (max 1 (timeout / 4) : Nat) →
              marks = { q.marks with owed := true } ∧ t.dq.entries = s.dq.entries ∧ t.req.counters = s.req.counters) ∧
            (s.up = true → (max 1 (timeout / 4) : Nat) ≤ (deadline - q.deadlineSent).toInt → 768 ≤ s.dq.entries.length →
              marks = { q.marks with owed := true } ∧ t.dq.entries = s.dq.entries ∧
              t.req.counters = { s.req.counters with
                refreshSuppressed := min 65535 (s.req.counters.refreshSuppressed + 1) }) ∧
            (s.up = true → (max 1 (timeout / 4) : Nat) ≤ (deadline - q.deadlineSent).toInt → s.dq.entries.length < 768 →
              (s.entryKind i = none →
                marks = ⟨true, false, q.marks.owed || o.snapshot.isSome⟩ ∧
                t.dq.entries = s.dq.entries ++ [⟨i, .refresh⟩] ∧ t.req.counters = s.req.counters) ∧
              (∀ kind, s.entryKind i = some kind →
                marks = { q.marks with owed := q.marks.owed || o.snapshot.isSome } ∧
                t.dq.entries = s.dq.entries.map (fun e => if e.slot = i then ⟨i, kind⟩ else e) ∧
                t.req.counters = { s.req.counters with
                  deltasCoalesced := min 65535 (s.req.counters.deltasCoalesced + 1) }))) ∧
          (∀ j, j ≠ i → t.slot j = s.slot j) ∧ s.latchedOnly t [.completionReady] ∧
          t = { s.followedBy t with
            table := t.table
            dq := t.dq
            req := { s.req with
              queue := t.req.queue
              completions := t.req.completions
              latch := t.req.latch
              counters := { s.req.counters with
                deltasCoalesced := t.req.counters.deltasCoalesced
                refreshSuppressed := t.req.counters.refreshSuppressed } } })

/-- R19: REMOVE, its checks in order, and on success the session ended. -/
def Obligations.RemoveEndsSession : Prop :=
  ∀ (s : State) (r : Request) (o : RemoveOperands) (i : Nat), s.canBegin r 6 2 → tableWf s.table = true →
    o = r.removeOperands → i = o.slot → ∃ t, exec .remove s = .next t ∧
      (s.role ≠ .active → s.role ≠ .takeover → t = (s.followedBy t).answered r .notActive []) ∧
      (s.role = .active ∨ s.role = .takeover →
        (16896 ≤ i → t = (s.followedBy t).answered r .badSlot []) ∧
        (i < 16896 → (s.slot i).live? = none → t = (s.followedBy t).answered r .noSession []) ∧
        ∀ q, i < 16896 → (s.slot i).live? = some q →
          (∀ x, o.expected = some x → x ≠ (s.slot i).version →
            t = (s.followedBy t).answered r .staleVersion [(s.slot i).version]) ∧
          ((∀ x, o.expected = some x → x = (s.slot i).version) →
            s.completed t r .ok [BitVec.ofNat 32 i, (s.slot i).version + 1] ∧ s.sessionEnded t i q ∧
            s.poolLowFollows t false ∧ s.latchedOnly t [.completionReady, .queueOverflow, .poolLow] ∧
            t = { s.followedBy t with
              table := t.table
              dq := t.dq
              pool := { s.pool with bound := t.pool.bound, quarantine := t.pool.quarantine, armed := t.pool.armed }
              req := { s.req with
                queue := t.req.queue
                completions := t.req.completions
                latch := t.req.latch
                counters := { s.req.counters with
                  deltasCoalesced := t.req.counters.deltasCoalesced
                  overflowMarks := t.req.counters.overflowMarks
                  quarantineEarly := t.req.counters.quarantineEarly } } }))

/-- R28 to R39, R43, R44: CHECK, its checks in order, then looseness, slack and the verdict, and the completion that reports them. A
verdict that fails, and every verdict in YIELDING, leaves the table as it was. -/
def Obligations.CheckJudgesSegment : Prop :=
  ∀ (s : State) (r : Request) (w : Word) (dir : Direction), s.canBegin r 7 8 → tableWf s.table = true → w = r.word 0 →
    ∃ t, exec .check s = .next t ∧
      (s.role ≠ .active → s.role ≠ .takeover → s.role ≠ .yielding → t = (s.followedBy t).answered r .notActive []) ∧
      (s.role = .active ∨ s.role = .takeover ∨ s.role = .yielding →
        (w.getLsbD 3 = true ∨ w.getLsbD 0 = w.getLsbD 1 → t = (s.followedBy t).answered r .badRequest []) ∧
        ∀ i, w.getLsbD 3 = false → w.getLsbD 0 ≠ w.getLsbD 1 → (dir = .inDir ↔ w.getLsbD 2 = true) →
          (w.getLsbD 0 = true → i = w.toNat / 65536 →
            (16896 ≤ i → t = (s.followedBy t).answered r .badSlot [BitVec.ofNat 32 i]) ∧
            (i < 16896 → (s.slot i).live? = none → t = (s.followedBy t).answered r .noSession [BitVec.ofNat 32 i])) ∧
          (w.getLsbD 0 = false → s.absent (r.key 1).normalise → t = (s.followedBy t).answered r .noSession []) ∧
          ∀ q, (s.slot i).live? = some q →
            (w.getLsbD 0 = true ∧ i = w.toNat / 65536 ∧ i < 16896) ∨
              (w.getLsbD 0 = false ∧ s.findable (r.key 1).normalise i q) →
            (q.tcp = none → t = (s.followedBy t).answered r .notTcp []) ∧
            ∀ (p : TcpPart) (snd rcv : TcpDir) (loose ack : Bool) (slack verdict : Nat) (o u a : Int), q.tcp = some p →
              (snd, rcv) = (match dir with
                | .outDir => (p.outDir, p.inDir)
                | .inDir => (p.inDir, p.outDir)) →
              (loose = true ↔ s.role = .takeover ∧ q.baseEpoch ≠ s.arb.epoch ∧
                ¬ (q.seenEpoch = s.arb.epoch ∧ q.seenOut = true ∧ q.seenIn = true)) →
              slack = (if loose then min s.cfg.slackCeiling (max (min s.cfg.slackFloor s.cfg.slackCeiling)
                (q.rate.toNat * (min 4095 (s.arb.takeoverTick - q.stamp).toNat + 1))) else 0) →
              ack = w.getLsbD 4 → o = (r.word 5 - snd.edge).toInt →
              u = (r.word 5 + ((r.word 6).extractLsb' 0 16).zeroExtend 32 - snd.wend).toInt →
              a = (r.word 7 - rcv.edge).toInt →
              verdict = (if o < -(max snd.maxwin.toNat 1 : Nat) then 2
                else if (slack : Int) < u then 3
                else if ack = true ∧ (slack : Int) < a then 4
                else if u ≤ 0 ∧ (ack = true → a ≤ 0) then 0 else 1) →
              s.completed t r .ok [BitVec.ofNat 32 i, (t.slot i).version, BitVec.ofNat 32 verdict,
                if loose then 1 else 0, BitVec.ofNat 32 slack, if s.role = .yielding then 1 else 0,
                (((t.slot i).live?.bind (·.tcp)).map (fun p => match dir with
                  | .outDir => p.outDir.edge
                  | .inDir => p.inDir.edge)).getD 0] ∧
              s.latchedOnly t [.completionReady] ∧ (∀ j, j ≠ i → t.slot j = s.slot j) ∧
              (verdict ≤ 1 ∧ s.role ≠ .yielding → (t.slot i).version = (s.slot i).version + 1) ∧
              (2 ≤ verdict ∨ s.role = .yielding → t.table = s.table) ∧
              t = { s.followedBy t with
                table := t.table
                req := { s.req with queue := t.req.queue, completions := t.req.completions, latch := t.req.latch } })

/-- R40 to R42: a passing CHECK, by slot or by key, in ACTIVE or TAKEOVER moves the sender's edge and the other direction's limit forward
only, bumps the version, owes a refresh while UP, and ties a loose record's seen flags to the epoch. -/
def Obligations.CheckMovesRecord : Prop :=
  ∀ (s : State) (r : Request) (i : Nat) (q : Record) (p : TcpPart) (dir : Direction) (snd rcv : TcpDir) (loose : Bool)
    (slack : Nat) (last ack limit : Word) (window : Nat) (o u a : Int),
    s.canBegin r 7 8 → tableWf s.table = true → s.role = .active ∨ s.role = .takeover →
    (r.word 0).getLsbD 0 = true ∧ (r.word 0).getLsbD 1 = false ∧ i = (r.word 0).toNat / 65536 ∧ i < 16896 ∨
      (r.word 0).getLsbD 0 = false ∧ (r.word 0).getLsbD 1 = true ∧ s.findable (r.key 1).normalise i q →
    (r.word 0).getLsbD 3 = false → (dir = .inDir ↔ (r.word 0).getLsbD 2 = true) →
    (s.slot i).live? = some q → q.tcp = some p →
    (snd, rcv) = (match dir with
      | .outDir => (p.outDir, p.inDir)
      | .inDir => (p.inDir, p.outDir)) →
    (loose = true ↔ s.role = .takeover ∧ q.baseEpoch ≠ s.arb.epoch ∧
      ¬ (q.seenEpoch = s.arb.epoch ∧ q.seenOut = true ∧ q.seenIn = true)) →
    slack = (if loose then min s.cfg.slackCeiling (max (min s.cfg.slackFloor s.cfg.slackCeiling)
      (q.rate.toNat * (min 4095 (s.arb.takeoverTick - q.stamp).toNat + 1))) else 0) →
    last = r.word 5 + ((r.word 6).extractLsb' 0 16).zeroExtend 32 → ack = r.word 7 →
    window = ((r.word 6).extractLsb' 16 16).toNat * 2 ^ snd.scale.toNat → limit = ack + BitVec.ofNat 32 window →
    o = (r.word 5 - snd.edge).toInt → u = (last - snd.wend).toInt → a = (ack - rcv.edge).toInt →
    -(max snd.maxwin.toNat 1 : Nat) ≤ o → u ≤ slack → ((r.word 0).getLsbD 4 = true → a ≤ slack) →
    ∃ (t : State) (snd' rcv' : TcpDir), exec .check s = .next t ∧
      snd' = { snd with edge := if 0 < (last - snd.edge).toInt then last else snd.edge } ∧
      rcv' = (if (r.word 0).getLsbD 4 then { rcv with
          wend := if 0 < (limit - rcv.wend).toInt then limit else rcv.wend
          maxwin := BitVec.ofNat 32 (min 1073741824 (max rcv.maxwin.toNat window)) }
        else rcv) ∧
      t.slot i = ⟨(s.slot i).version + 1, .live { q with
        tcp := some (match dir with
          | .outDir => ⟨snd', rcv'⟩
          | .inDir => ⟨rcv', snd'⟩)
        marks := { q.marks with owed := q.marks.owed || s.up }
        seenEpoch := if loose then s.arb.epoch else q.seenEpoch
        seenOut := if loose then decide (dir = .outDir) || (decide (q.seenEpoch = s.arb.epoch) && q.seenOut) else q.seenOut
        seenIn := if loose then decide (dir = .inDir) || (decide (q.seenEpoch = s.arb.epoch) && q.seenIn) else q.seenIn }⟩

/-! ### Requests to the other blocks -/

/-- R127: RETRY_PAIR is admitted in every role and always answers OK; it leaves REFUSED for HELLO, where the exchange begins at page 1, and
in any other link state changes nothing. -/
def Obligations.RetryPairLeavesRefused : Prop :=
  ∀ (s : State) (r : Request), s.canBegin r 9 0 → ∃ t, exec .retryPair s = .next t ∧
    (s.port.link ≠ .refused → t = (s.followedBy t).answered r .ok []) ∧
    (s.port.link = .refused → (s.role ≠ .boot → s.exchangeBegun t) ∧ (s.role = .boot → t.hello = s.hello) ∧
      t = { (s.followedBy t).answered r .ok [] with
        port := { (s.followedBy t).port with link := .hello }
        hello := t.hello })

/-- R154, R155, R167, R170: HEALTH writes a new level, HOLD_STANDBY sets the flag and stops a STAGGER, and RELEASE_HOLD clears it and takes
the decision it had held back; a change puts a BEAT while UP, and a change of health restarts the exchange while in HELLO. The empty result
of HEALTH's BAD_REQUEST is the model's reading (assumption 21). -/
def Obligations.HealthAndHoldWritten : Prop :=
  ∀ (s : State) (r : Request),
    (∀ level, s.canBegin r 10 1 → level = (r.word 0).toNat % 256 → ∃ t, exec .health s = .next t ∧
      (7 < level → t = (s.followedBy t).answered r .badRequest []) ∧
      (level ≤ 7 → level = s.arb.health → t = (s.followedBy t).answered r .ok [BitVec.ofNat 32 level]) ∧
      (level ≤ 7 → level ≠ s.arb.health → (s.up = true → t.beatPut) ∧
        (s.port.link = .hello ∧ s.role ≠ .boot → s.exchangeBegun t) ∧
        (s.port.link ≠ .hello ∨ s.role = .boot → t.hello = s.hello) ∧
        t = { (s.followedBy t).answered r .ok [BitVec.ofNat 32 level] with
          arb := { (s.followedBy t).arb with health := level }
          hello := t.hello })) ∧
    (s.canBegin r 11 1 → r.word 0 = 1 → ∃ t, exec .holdStandby s = .next t ∧
      (s.arb.hold = true → t = (s.followedBy t).answered r .ok [BitVec.ofNat 32 s.role.code, 1]) ∧
      (s.arb.hold = false → (s.up = true → t.beatPut) ∧
        t = { (s.followedBy t).answered r .ok [BitVec.ofNat 32 s.role.code, 1] with
          arb := { (s.followedBy t).arb with
            hold := true
            listen := if s.arb.listen.map (·.1) = some .stagger then none else s.arb.listen } })) ∧
    (s.canBegin r 11 1 → r.word 0 = 2 → ∃ t, exec .releaseHold s = .next t ∧
      s.completed t r .ok [BitVec.ofNat 32 t.role.code, 0] ∧ t.arb.hold = false ∧
      (s.arb.hold = true → s.up = true → t.beatPut) ∧ s.roleChangeTaken t ∧ s.exchangeFollows t ∧
      (s.arb.hold = false ∨ s.role = .boot ∨ s.role = .active ∨ s.role = .takeover ∨ s.role = .yielding ∨
          (s.role = .listen ∧ s.arb.listen ≠ none) ∨ (s.role ≠ .listen ∧ s.up = true) →
        t = { (s.followedBy t).answered r .ok [BitVec.ofNat 32 s.role.code, 0] with
          arb := { (s.followedBy t).arb with hold := false } }) ∧
      (s.arb.hold = true → s.role = .listen → s.arb.listen = none →
        ((t.role, t.arb.listen) = if s.monitor.cls = .active then (.isolated, none) else match s.letter with
          | .a => (.active, none)
          | .b => (.listen, some (.second, 0))) ∧
        t.arb = { (s.roleMoved t).arb with hold := false, listen := t.arb.listen } ∧ t.pool = s.pool) ∧
      (s.arb.hold = true → s.up = false → s.role = .standby ∨ s.role = .joining ∨ s.role = .isolated →
        { s with arb := { s.arb with hold := false } }.peerLossDecided t s.monitor.cls) ∧
      s.poolLowFollows t false ∧ s.latchedOnly t [.roleChanged, .partialTakeover, .poolLow, .completionReady] ∧
      t = { s.roleMoved t with
        arb := t.arb
        pool := { s.pool with laneMode := t.pool.laneMode, armed := t.pool.armed }
        req := { s.req with queue := t.req.queue, completions := t.req.completions, latch := t.req.latch } })

/-- R183 to R185, R192, R193: SET_CONFIG clamps every field to its range, names the clamped ones, and writes the record whole: all of it in
BOOT, all but the geometry fields in any other role, naming those whose value differs from the one held. That a new threshold is evaluated
at the write in BOOT too, and not first at START, is the model's choice (assumption 51). -/
def Obligations.SetConfigWritesRecord : Prop :=
  ∀ (s : State) (r : Request) (new : ConfigRecord) (clampedList notAppliedList : Word) (field : Nat → Nat → Nat → Nat),
    s.canBegin r 12 28 → (∀ lo hi n, field lo hi n = max lo (min hi (r.word n).toNat)) →
    new = {
      tickInterval := field 10 1000 0, heartbeat := field 1 10 1, beatsLost := field 2 10 2
      listenPeriod := field 10 300 3, grace := field 10 65535 4, healthHold := field 1 600 5
      yieldTimeout := field 5 100 6, priority := field 0 15 7, preempt := decide (r.word 8 ≠ 0)
      timeouts := #v[field 1 65535 9, field 1 65535 10, field 1 65535 11, field 1 65535 12, field 1 65535 13,
        field 1 65535 14, field 1 65535 15, field 1 65535 16]
      slackFloor := field 0 1073741824 17, slackCeiling := field 0 1073741824 18, addrCount := field 1 4 19
      addrs := #v[r.word 20, r.word 21, r.word 22, r.word 23], staticBlocks := field 0 64 24
      quarantineHold := field 0 65535 25, poolLow := field 0 32768 26, seed := r.word 27 } →
    (∀ n, clampedList.getLsbD n = true ↔
      (∃ lo hi w, (n, lo, hi, w) ∈ [(0, 10, 1000, 0), (1, 1, 10, 1), (2, 2, 10, 2), (3, 10, 300, 3), (4, 10, 65535, 4),
        (5, 1, 600, 5), (6, 5, 100, 6), (7, 0, 15, 7), (9, 1, 65535, 9), (9, 1, 65535, 10), (9, 1, 65535, 11),
        (9, 1, 65535, 12), (9, 1, 65535, 13), (9, 1, 65535, 14), (9, 1, 65535, 15), (9, 1, 65535, 16),
        (10, 0, 1073741824, 17), (11, 0, 1073741824, 18), (12, 1, 4, 19), (14, 0, 64, 24), (15, 0, 65535, 25),
        (16, 0, 32768, 26)] ∧ ((r.word w).toNat < lo ∨ hi < (r.word w).toNat))) →
    (∀ n, notAppliedList.getLsbD n = true ↔ s.role ≠ .boot ∧
      ((n = 0 ∧ new.tickInterval ≠ s.cfg.tickInterval) ∨ (n = 12 ∧ new.addrCount ≠ s.cfg.addrCount) ∨
        (n = 13 ∧ new.addrs ≠ s.cfg.addrs) ∨ (n = 14 ∧ new.staticBlocks ≠ s.cfg.staticBlocks) ∨
        (n = 17 ∧ new.seed ≠ s.cfg.seed))) →
    ∃ t, exec .setConfig s = .next t ∧ s.completed t r .ok [clampedList, notAppliedList] ∧
      t.cfg = (if s.role = .boot then new else { new with
        tickInterval := s.cfg.tickInterval, addrCount := s.cfg.addrCount, addrs := s.cfg.addrs
        staticBlocks := s.cfg.staticBlocks, seed := s.cfg.seed }) ∧
      (s.port.link = .hello ∧ s.role ≠ .boot ∧ new.priority ≠ s.cfg.priority → s.exchangeBegun t) ∧
      (s.port.link ≠ .hello ∨ s.role = .boot ∨ new.priority = s.cfg.priority → t.hello = s.hello) ∧
      s.poolLowFollows t (decide (new.poolLow ≠ s.cfg.poolLow)) ∧ s.latchedOnly t [.completionReady, .poolLow] ∧
      t = { s.followedBy t with
        cfg := t.cfg
        hello := t.hello
        pool := { s.pool with armed := t.pool.armed }
        req := { s.req with queue := t.req.queue, completions := t.req.completions, latch := t.req.latch } }

/-- R75, R152, R186: START in BOOT runs the binding pass and goes to LISTEN with the listen timer started and, in HELLO, the exchange
begun, once (assumption 25); in any other role it answers NOT_READY and changes nothing. After the pass a lane-region port is bound exactly
when one LIVE record names it, and the first record in slot order that sits in its bucket and names a port keeps it. That a record with a
static port is kept whatever its address index is the model's reading (assumption 44), and that a threshold written in BOOT has been
evaluated before is its choice (assumption 51). -/
def Obligations.StartLeavesBoot : Prop :=
  ∀ (s : State) (r : Request), s.canBegin r 13 0 → tableWf s.table = true → ∃ t, exec .start s = .next t ∧
    (s.role ≠ .boot → t = (s.followedBy t).answered r .notReady [BitVec.ofNat 32 s.role.code]) ∧
    (s.role = .boot → s.completed t r .ok [1] ∧ t.role = .listen ∧ t.arb.listen = some (.first, 0) ∧
      t.driver.pattern = some .waiting ∧ s.latchedOnly t [.roleChanged, .poolLow, .completionReady] ∧
      t.latched .roleChanged = true ∧ s.poolLowFollows t true ∧ (s.port.link = .hello → s.exchangeBegun t) ∧
      (s.port.link ≠ .hello → t.hello = s.hello) ∧
      t.pool.addrCount = s.cfg.addrCount ∧ t.pool.staticBlocks = s.cfg.staticBlocks ∧ t.pool.quarantine = [] ∧
      t.pool.cursors = Vector.replicate 4 (1024 + 64 * s.cfg.staticBlocks) ∧
      (∀ n, t.pool.serves n = true → (t.pool.condition n = .bound ↔ ∃ i q, (t.slot i).live? = some q ∧ q.nat = some n)) ∧
      (∀ n i j p q, t.pool.serves n = true → (t.slot i).live? = some p → (t.slot j).live? = some q → p.nat = some n →
        q.nat = some n → i = j) ∧
      (∀ i, (s.slot i).live? = none → t.slot i = s.slot i) ∧
      (∀ i q n, (s.slot i).live? = some q → q.nat = some n → 16384 ≤ i ∨ i / 4 = q.key.bucket s.cfg.seed →
        n.index.toNat < s.cfg.addrCount → 1024 + 64 * s.cfg.staticBlocks ≤ n.port.toNat →
        (∀ j p, j < i → (s.slot j).live? = some p → 16384 ≤ j ∨ j / 4 = p.key.bucket s.cfg.seed → p.nat ≠ some n) →
        (t.slot i).live? ≠ none ∧ t.pool.condition n = .bound) ∧
      (∀ i q, (s.slot i).live? = some q →
        (i < 16384 → i / 4 ≠ q.key.bucket s.cfg.seed → t.slot i = ⟨(s.slot i).version, .free⟩) ∧
        (t.slot i = ⟨(s.slot i).version, .free⟩ ∨ t.slot i = ⟨(s.slot i).version, .live { q with
          home := if i < 16384 then q.home else some (q.key.bucket s.cfg.seed) }⟩) ∧
        (16384 ≤ i ∨ i / 4 = q.key.bucket s.cfg.seed →
          (∀ n, q.nat = some n → 1024 + 64 * s.cfg.staticBlocks ≤ n.port.toNat →
            s.cfg.addrCount ≤ n.index.toNat → t.slot i = ⟨(s.slot i).version, .free⟩) ∧
          ((∀ n, q.nat = some n → n.port.toNat < 1024 + 64 * s.cfg.staticBlocks) →
            (t.slot i).live? ≠ none))) ∧
      t = { s.roleMoved t with
        arb := { (s.roleMoved t).arb with listen := t.arb.listen }
        table := t.table
        pool := { t.pool with laneMode := s.pool.laneMode }
        req := { s.req with queue := t.req.queue, completions := t.req.completions, latch := t.req.latch } })

/-- R176, R182, R187, R192: READ_STATUS reports the part as it stands, READ_COUNTERS the nine counts, which it clears, and a request of an
unknown kind or of a length its kind does not have answers BAD_REQUEST. None changes anything else. The order and codes of READ_STATUS
(assumptions 19 and 20), and an unknown ROLE_REQUEST action's answer in every role, with role and hold flag (assumptions 21 and 23), are
the model's reading. -/
def Obligations.StatusCountersAndUnknown : Prop :=
  ∀ (s : State) (r : Request) (n : Nat → Word) (peer : PeerView) (free : UnitLetter → Nat → Nat), n = BitVec.ofNat 32 →
    peer = s.arb.peer →
    (∀ lane i, free lane i = s.pool.freeIn i lane) →
    (s.canBegin r 14 0 → exec .readStatus s = .next (s.answered r .ok ([
      n s.role.code, n (match s.driver.pattern with
        | some .active => 0
        | some .standby => 1
        | some .waiting => 2
        | none => 3), n s.arb.health, n s.arb.hold.toNat, n (if s.letter = .a then 0 else 1), n s.cfg.priority,
      s.arb.epoch.zeroExtend 32, s.arb.takeoverTick, n (if s.role = .takeover then s.arb.grace else 0),
      n (if s.pool.laneMode = .own then 0 else 1),
      n s.monitor.cls.code, n s.port.link.code, n ((peer.role.map (·.code)).getD 8), n peer.health, n peer.priority,
      peer.letter.zeroExtend 32, n peer.live, n peer.sweep.code, n peer.lagging.toNat, n peer.hold.toNat,
      n s.port.link.code, n s.port.inFlight.length, n s.port.lastEnd.code,
      n ((s.hello.refusal.map (fun q => q.page % 8 + if q.byPeer then 256 else 0)).getD 0),
      n s.sweep.state.code, n s.sweep.cursor, n s.dq.entries.length, n s.dirtyCount, n s.liveCount] ++
      ([0, 1, 2, 3].filter (fun i => decide (i < s.pool.addrCount))).flatMap (fun i => match s.pool.laneMode with
        | .own => [n (free s.letter i)]
        | .both => [n (free .a i), n (free .b i)]) ++ [s.aging.ticks]))) ∧
    (s.canBegin r 15 0 → exec .readCounters s = .next (
      { s with req := { s.req with counters := ⟨0, 0, 0, 0, 0, 0, 0, 0⟩, drops := 0 } }.answered r .ok
        ([s.req.counters.framesResent, s.req.counters.framesDiscarded, s.req.counters.deltasCoalesced,
          s.req.counters.refreshSuppressed, s.req.counters.overflowMarks, s.req.counters.quarantineEarly,
          s.req.counters.lineGarbled, s.req.counters.relationsEnded, s.req.drops].map n))) ∧
    (∀ kind words, s.canBegin r kind words →
      (kind, words) ∉ [(1, 6), (1, 13), (2, 4), (3, 1), (4, 8), (5, 6), (6, 2), (7, 8), (8, 1), (9, 0), (10, 1), (11, 1),
        (12, 28), (13, 0), (14, 0), (15, 0), (16, 0)] ∨ (kind = 8 ∧ 1 < (r.word 0).toNat) →
      exec .unknownRequest s = .next (s.answered r .badRequest [])) ∧
    (s.canBegin r 11 1 → 3 < (r.word 0).toNat →
      exec .unknownRequest s = .next (s.answered r .badRequest [n s.role.code, n s.arb.hold.toNat]))

/-- R25, R77, R95, R118, R137, R148, R158, R172, R188 to R190: SOFT_RESET returns the part to BOOT, ends a relation, and leaves each block
its values; the LIVE records, the bound ports, the tick count, the epoch, the ticks that a stopped grace timer had left and the monitor's
reading are kept. The model's choices are that waiting frames are dropped (assumption 39), that arming evaluates nothing (assumption 24),
and the values the reset tables do not list, such as the scan count and the markers (assumption 14). -/
def Obligations.SoftResetKeepsSessions : Prop :=
  ∀ (s : State) (r : Request), s.canBegin r 16 0 → tableWf s.table = true → s.lineFollowsRole →
    ∃ t, exec .softReset s = .next t ∧
      (∀ i, t.slot i = match (s.slot i).body with
        | .free => s.slot i
        | .live q => ⟨(s.slot i).version, .live { q with marks := ⟨false, false, false⟩ }⟩
        | .doomed _ => ⟨(s.slot i).version, .free⟩) ∧
      t.dq = ⟨[], false, 0⟩ ∧ t.aging = s.aging ∧ t.monitor = s.monitor ∧ t.sweep = ⟨.idle, 0, 0⟩ ∧
      t.cfg = State.reset.cfg ∧
      t.pool = { s.pool with quarantine := [], laneMode := .own, armed := #v[true, true, true, true] } ∧
      t.arb = { State.reset.arb with
        epoch := s.arb.epoch, takeoverTick := s.arb.takeoverTick, grace := s.arb.grace, peer := s.arb.peer } ∧
      t.driver.pattern = none ∧ t.driver.level = false ∧
      t.port = { s.port with
        link := if s.port.carrier then .hello else .down
        inFlight := [], applying := [], heartbeat := none, silence := none
        lastEnd := if s.up then .softReset else s.port.lastEnd
        sweepBegin := false, sweepEnd := false, yieldMarker := false
        tx := { Transmitter.initial with sending := s.port.tx.sending } } ∧
      t.hello = { t.hello with
        ownPage := 1, toggle := false, taken := 0, ackToggle := true, exchange := s.hello.exchange, comply := true
        peerIdentity := none, refusal := none } ∧
      t.req = {
        assembling := s.req.assembling, queue := [], running := none, completions := [⟨16, .ok, r.tag, []⟩], readPos := 0
        latch := 0xC000, enable := 0, counters := ⟨0, 0, 0, 0, 0, 0, 0, 0⟩, drops := 0 } ∧
      t.clock = s.clock ∧ t.letter = s.letter

/-! ### Formats -/

/-- R192, R194 to R196: a frame written by one part and padded on the cable is the frame the other reads. The padding, with one opaque byte
to Ethernet's minimum of 46, is the model's (assumption 11). -/
def Obligations.FramesSurviveTheWire : Prop :=
  ∀ f : Frame, (match f with
    | .delta _ ds => 1 ≤ ds.length ∧ ds.length ≤ 20 ∧
      ∀ d, .full d ∈ ds → (d.tcp.isSome = true ↔ d.key.protocol = 6)
    | .probe p => p.pattern.length = 32
    | _ => True) → parseFrame (padded f.bytes) = some f
end

