-- ==== Sys2Proof/Laws/State.lean ====
section
/-! SUPPORT. What each block update writes and what it leaves: one lemma per field per update. -/

namespace Sys2Proof.Machine.State

variable (s : State)

/-! ### withBusData -/

section
variable (x : Word)
@[simp] theorem withBusData_pending : (s.withBusData x).pending = s.pending := rfl
@[simp] theorem withBusData_clock : (s.withBusData x).clock = s.clock := rfl
@[simp] theorem withBusData_resetLow : (s.withBusData x).resetLow = s.resetLow := rfl
@[simp] theorem withBusData_letter : (s.withBusData x).letter = s.letter := rfl
@[simp] theorem withBusData_busData : (s.withBusData x).busData = x := rfl
@[simp] theorem withBusData_req : (s.withBusData x).req = s.req := rfl
@[simp] theorem withBusData_cfg : (s.withBusData x).cfg = s.cfg := rfl
@[simp] theorem withBusData_table : (s.withBusData x).table = s.table := rfl
@[simp] theorem withBusData_aging : (s.withBusData x).aging = s.aging := rfl
@[simp] theorem withBusData_pool : (s.withBusData x).pool = s.pool := rfl
@[simp] theorem withBusData_dq : (s.withBusData x).dq = s.dq := rfl
@[simp] theorem withBusData_port : (s.withBusData x).port = s.port := rfl
@[simp] theorem withBusData_hello : (s.withBusData x).hello = s.hello := rfl
@[simp] theorem withBusData_sweep : (s.withBusData x).sweep = s.sweep := rfl
@[simp] theorem withBusData_driver : (s.withBusData x).driver = s.driver := rfl
@[simp] theorem withBusData_monitor : (s.withBusData x).monitor = s.monitor := rfl
@[simp] theorem withBusData_arb : (s.withBusData x).arb = s.arb := rfl
@[simp] theorem withBusData_due : (s.withBusData x).due = s.due := rfl
@[simp] theorem withBusData_role : (s.withBusData x).role = s.role := rfl
@[simp] theorem withBusData_now : (s.withBusData x).now = s.now := rfl
@[simp] theorem withBusData_up : (s.withBusData x).up = s.up := rfl
end

/-! ### withClock -/

section
variable (x : Nat)
@[simp] theorem withClock_pending : (s.withClock x).pending = s.pending := rfl
@[simp] theorem withClock_clock : (s.withClock x).clock = x := rfl
@[simp] theorem withClock_resetLow : (s.withClock x).resetLow = s.resetLow := rfl
@[simp] theorem withClock_letter : (s.withClock x).letter = s.letter := rfl
@[simp] theorem withClock_busData : (s.withClock x).busData = s.busData := rfl
@[simp] theorem withClock_req : (s.withClock x).req = s.req := rfl
@[simp] theorem withClock_cfg : (s.withClock x).cfg = s.cfg := rfl
@[simp] theorem withClock_table : (s.withClock x).table = s.table := rfl
@[simp] theorem withClock_aging : (s.withClock x).aging = s.aging := rfl
@[simp] theorem withClock_pool : (s.withClock x).pool = s.pool := rfl
@[simp] theorem withClock_dq : (s.withClock x).dq = s.dq := rfl
@[simp] theorem withClock_port : (s.withClock x).port = s.port := rfl
@[simp] theorem withClock_hello : (s.withClock x).hello = s.hello := rfl
@[simp] theorem withClock_sweep : (s.withClock x).sweep = s.sweep := rfl
@[simp] theorem withClock_driver : (s.withClock x).driver = s.driver := rfl
@[simp] theorem withClock_monitor : (s.withClock x).monitor = s.monitor := rfl
@[simp] theorem withClock_arb : (s.withClock x).arb = s.arb := rfl
@[simp] theorem withClock_due : (s.withClock x).due = s.due := rfl
@[simp] theorem withClock_role : (s.withClock x).role = s.role := rfl
@[simp] theorem withClock_now : (s.withClock x).now = s.now := rfl
@[simp] theorem withClock_up : (s.withClock x).up = s.up := rfl
end

/-! ### withPending -/

section
variable (x : List Instr)
@[simp] theorem withPending_pending : (s.withPending x).pending = x := rfl
@[simp] theorem withPending_clock : (s.withPending x).clock = s.clock := rfl
@[simp] theorem withPending_resetLow : (s.withPending x).resetLow = s.resetLow := rfl
@[simp] theorem withPending_letter : (s.withPending x).letter = s.letter := rfl
@[simp] theorem withPending_busData : (s.withPending x).busData = s.busData := rfl
@[simp] theorem withPending_req : (s.withPending x).req = s.req := rfl
@[simp] theorem withPending_cfg : (s.withPending x).cfg = s.cfg := rfl
@[simp] theorem withPending_table : (s.withPending x).table = s.table := rfl
@[simp] theorem withPending_aging : (s.withPending x).aging = s.aging := rfl
@[simp] theorem withPending_pool : (s.withPending x).pool = s.pool := rfl
@[simp] theorem withPending_dq : (s.withPending x).dq = s.dq := rfl
@[simp] theorem withPending_port : (s.withPending x).port = s.port := rfl
@[simp] theorem withPending_hello : (s.withPending x).hello = s.hello := rfl
@[simp] theorem withPending_sweep : (s.withPending x).sweep = s.sweep := rfl
@[simp] theorem withPending_driver : (s.withPending x).driver = s.driver := rfl
@[simp] theorem withPending_monitor : (s.withPending x).monitor = s.monitor := rfl
@[simp] theorem withPending_arb : (s.withPending x).arb = s.arb := rfl
@[simp] theorem withPending_due : (s.withPending x).due = s.due := rfl
@[simp] theorem withPending_role : (s.withPending x).role = s.role := rfl
@[simp] theorem withPending_now : (s.withPending x).now = s.now := rfl
@[simp] theorem withPending_up : (s.withPending x).up = s.up := rfl
end

/-! ### withReq -/

section
variable (x : RequestPort)
@[simp] theorem withReq_pending : (s.withReq x).pending = s.pending := rfl
@[simp] theorem withReq_clock : (s.withReq x).clock = s.clock := rfl
@[simp] theorem withReq_resetLow : (s.withReq x).resetLow = s.resetLow := rfl
@[simp] theorem withReq_letter : (s.withReq x).letter = s.letter := rfl
@[simp] theorem withReq_busData : (s.withReq x).busData = s.busData := rfl
@[simp] theorem withReq_req : (s.withReq x).req = x := rfl
@[simp] theorem withReq_cfg : (s.withReq x).cfg = s.cfg := rfl
@[simp] theorem withReq_table : (s.withReq x).table = s.table := rfl
@[simp] theorem withReq_aging : (s.withReq x).aging = s.aging := rfl
@[simp] theorem withReq_pool : (s.withReq x).pool = s.pool := rfl
@[simp] theorem withReq_dq : (s.withReq x).dq = s.dq := rfl
@[simp] theorem withReq_port : (s.withReq x).port = s.port := rfl
@[simp] theorem withReq_hello : (s.withReq x).hello = s.hello := rfl
@[simp] theorem withReq_sweep : (s.withReq x).sweep = s.sweep := rfl
@[simp] theorem withReq_driver : (s.withReq x).driver = s.driver := rfl
@[simp] theorem withReq_monitor : (s.withReq x).monitor = s.monitor := rfl
@[simp] theorem withReq_arb : (s.withReq x).arb = s.arb := rfl
@[simp] theorem withReq_due : (s.withReq x).due = s.due := rfl
@[simp] theorem withReq_role : (s.withReq x).role = s.role := rfl
@[simp] theorem withReq_now : (s.withReq x).now = s.now := rfl
@[simp] theorem withReq_up : (s.withReq x).up = s.up := rfl
end

/-! ### withCfg -/

section
variable (x : ConfigRecord)
@[simp] theorem withCfg_pending : (s.withCfg x).pending = s.pending := rfl
@[simp] theorem withCfg_clock : (s.withCfg x).clock = s.clock := rfl
@[simp] theorem withCfg_resetLow : (s.withCfg x).resetLow = s.resetLow := rfl
@[simp] theorem withCfg_letter : (s.withCfg x).letter = s.letter := rfl
@[simp] theorem withCfg_busData : (s.withCfg x).busData = s.busData := rfl
@[simp] theorem withCfg_req : (s.withCfg x).req = s.req := rfl
@[simp] theorem withCfg_cfg : (s.withCfg x).cfg = x := rfl
@[simp] theorem withCfg_table : (s.withCfg x).table = s.table := rfl
@[simp] theorem withCfg_aging : (s.withCfg x).aging = s.aging := rfl
@[simp] theorem withCfg_pool : (s.withCfg x).pool = s.pool := rfl
@[simp] theorem withCfg_dq : (s.withCfg x).dq = s.dq := rfl
@[simp] theorem withCfg_port : (s.withCfg x).port = s.port := rfl
@[simp] theorem withCfg_hello : (s.withCfg x).hello = s.hello := rfl
@[simp] theorem withCfg_sweep : (s.withCfg x).sweep = s.sweep := rfl
@[simp] theorem withCfg_driver : (s.withCfg x).driver = s.driver := rfl
@[simp] theorem withCfg_monitor : (s.withCfg x).monitor = s.monitor := rfl
@[simp] theorem withCfg_arb : (s.withCfg x).arb = s.arb := rfl
@[simp] theorem withCfg_due : (s.withCfg x).due = s.due := rfl
@[simp] theorem withCfg_role : (s.withCfg x).role = s.role := rfl
@[simp] theorem withCfg_now : (s.withCfg x).now = s.now := rfl
@[simp] theorem withCfg_up : (s.withCfg x).up = s.up := rfl
end

/-! ### withTable -/

section
variable (x : Table)
@[simp] theorem withTable_pending : (s.withTable x).pending = s.pending := rfl
@[simp] theorem withTable_clock : (s.withTable x).clock = s.clock := rfl
@[simp] theorem withTable_resetLow : (s.withTable x).resetLow = s.resetLow := rfl
@[simp] theorem withTable_letter : (s.withTable x).letter = s.letter := rfl
@[simp] theorem withTable_busData : (s.withTable x).busData = s.busData := rfl
@[simp] theorem withTable_req : (s.withTable x).req = s.req := rfl
@[simp] theorem withTable_cfg : (s.withTable x).cfg = s.cfg := rfl
@[simp] theorem withTable_table : (s.withTable x).table = x := rfl
@[simp] theorem withTable_aging : (s.withTable x).aging = s.aging := rfl
@[simp] theorem withTable_pool : (s.withTable x).pool = s.pool := rfl
@[simp] theorem withTable_dq : (s.withTable x).dq = s.dq := rfl
@[simp] theorem withTable_port : (s.withTable x).port = s.port := rfl
@[simp] theorem withTable_hello : (s.withTable x).hello = s.hello := rfl
@[simp] theorem withTable_sweep : (s.withTable x).sweep = s.sweep := rfl
@[simp] theorem withTable_driver : (s.withTable x).driver = s.driver := rfl
@[simp] theorem withTable_monitor : (s.withTable x).monitor = s.monitor := rfl
@[simp] theorem withTable_arb : (s.withTable x).arb = s.arb := rfl
@[simp] theorem withTable_due : (s.withTable x).due = s.due := rfl
@[simp] theorem withTable_role : (s.withTable x).role = s.role := rfl
@[simp] theorem withTable_now : (s.withTable x).now = s.now := rfl
@[simp] theorem withTable_up : (s.withTable x).up = s.up := rfl
end

/-! ### withAging -/

section
variable (x : Aging)
@[simp] theorem withAging_pending : (s.withAging x).pending = s.pending := rfl
@[simp] theorem withAging_clock : (s.withAging x).clock = s.clock := rfl
@[simp] theorem withAging_resetLow : (s.withAging x).resetLow = s.resetLow := rfl
@[simp] theorem withAging_letter : (s.withAging x).letter = s.letter := rfl
@[simp] theorem withAging_busData : (s.withAging x).busData = s.busData := rfl
@[simp] theorem withAging_req : (s.withAging x).req = s.req := rfl
@[simp] theorem withAging_cfg : (s.withAging x).cfg = s.cfg := rfl
@[simp] theorem withAging_table : (s.withAging x).table = s.table := rfl
@[simp] theorem withAging_aging : (s.withAging x).aging = x := rfl
@[simp] theorem withAging_pool : (s.withAging x).pool = s.pool := rfl
@[simp] theorem withAging_dq : (s.withAging x).dq = s.dq := rfl
@[simp] theorem withAging_port : (s.withAging x).port = s.port := rfl
@[simp] theorem withAging_hello : (s.withAging x).hello = s.hello := rfl
@[simp] theorem withAging_sweep : (s.withAging x).sweep = s.sweep := rfl
@[simp] theorem withAging_driver : (s.withAging x).driver = s.driver := rfl
@[simp] theorem withAging_monitor : (s.withAging x).monitor = s.monitor := rfl
@[simp] theorem withAging_arb : (s.withAging x).arb = s.arb := rfl
@[simp] theorem withAging_due : (s.withAging x).due = s.due := rfl
@[simp] theorem withAging_role : (s.withAging x).role = s.role := rfl
@[simp] theorem withAging_up : (s.withAging x).up = s.up := rfl
end

/-! ### withPool -/

section
variable (x : Pool)
@[simp] theorem withPool_pending : (s.withPool x).pending = s.pending := rfl
@[simp] theorem withPool_clock : (s.withPool x).clock = s.clock := rfl
@[simp] theorem withPool_resetLow : (s.withPool x).resetLow = s.resetLow := rfl
@[simp] theorem withPool_letter : (s.withPool x).letter = s.letter := rfl
@[simp] theorem withPool_busData : (s.withPool x).busData = s.busData := rfl
@[simp] theorem withPool_req : (s.withPool x).req = s.req := rfl
@[simp] theorem withPool_cfg : (s.withPool x).cfg = s.cfg := rfl
@[simp] theorem withPool_table : (s.withPool x).table = s.table := rfl
@[simp] theorem withPool_aging : (s.withPool x).aging = s.aging := rfl
@[simp] theorem withPool_pool : (s.withPool x).pool = x := rfl
@[simp] theorem withPool_dq : (s.withPool x).dq = s.dq := rfl
@[simp] theorem withPool_port : (s.withPool x).port = s.port := rfl
@[simp] theorem withPool_hello : (s.withPool x).hello = s.hello := rfl
@[simp] theorem withPool_sweep : (s.withPool x).sweep = s.sweep := rfl
@[simp] theorem withPool_driver : (s.withPool x).driver = s.driver := rfl
@[simp] theorem withPool_monitor : (s.withPool x).monitor = s.monitor := rfl
@[simp] theorem withPool_arb : (s.withPool x).arb = s.arb := rfl
@[simp] theorem withPool_due : (s.withPool x).due = s.due := rfl
@[simp] theorem withPool_role : (s.withPool x).role = s.role := rfl
@[simp] theorem withPool_now : (s.withPool x).now = s.now := rfl
@[simp] theorem withPool_up : (s.withPool x).up = s.up := rfl
end

/-! ### withDq -/

section
variable (x : DeltaQueue)
@[simp] theorem withDq_pending : (s.withDq x).pending = s.pending := rfl
@[simp] theorem withDq_clock : (s.withDq x).clock = s.clock := rfl
@[simp] theorem withDq_resetLow : (s.withDq x).resetLow = s.resetLow := rfl
@[simp] theorem withDq_letter : (s.withDq x).letter = s.letter := rfl
@[simp] theorem withDq_busData : (s.withDq x).busData = s.busData := rfl
@[simp] theorem withDq_req : (s.withDq x).req = s.req := rfl
@[simp] theorem withDq_cfg : (s.withDq x).cfg = s.cfg := rfl
@[simp] theorem withDq_table : (s.withDq x).table = s.table := rfl
@[simp] theorem withDq_aging : (s.withDq x).aging = s.aging := rfl
@[simp] theorem withDq_pool : (s.withDq x).pool = s.pool := rfl
@[simp] theorem withDq_dq : (s.withDq x).dq = x := rfl
@[simp] theorem withDq_port : (s.withDq x).port = s.port := rfl
@[simp] theorem withDq_hello : (s.withDq x).hello = s.hello := rfl
@[simp] theorem withDq_sweep : (s.withDq x).sweep = s.sweep := rfl
@[simp] theorem withDq_driver : (s.withDq x).driver = s.driver := rfl
@[simp] theorem withDq_monitor : (s.withDq x).monitor = s.monitor := rfl
@[simp] theorem withDq_arb : (s.withDq x).arb = s.arb := rfl
@[simp] theorem withDq_due : (s.withDq x).due = s.due := rfl
@[simp] theorem withDq_role : (s.withDq x).role = s.role := rfl
@[simp] theorem withDq_now : (s.withDq x).now = s.now := rfl
@[simp] theorem withDq_up : (s.withDq x).up = s.up := rfl
end

/-! ### withPort -/

section
variable (x : PairPort)
@[simp] theorem withPort_pending : (s.withPort x).pending = s.pending := rfl
@[simp] theorem withPort_clock : (s.withPort x).clock = s.clock := rfl
@[simp] theorem withPort_resetLow : (s.withPort x).resetLow = s.resetLow := rfl
@[simp] theorem withPort_letter : (s.withPort x).letter = s.letter := rfl
@[simp] theorem withPort_busData : (s.withPort x).busData = s.busData := rfl
@[simp] theorem withPort_req : (s.withPort x).req = s.req := rfl
@[simp] theorem withPort_cfg : (s.withPort x).cfg = s.cfg := rfl
@[simp] theorem withPort_table : (s.withPort x).table = s.table := rfl
@[simp] theorem withPort_aging : (s.withPort x).aging = s.aging := rfl
@[simp] theorem withPort_pool : (s.withPort x).pool = s.pool := rfl
@[simp] theorem withPort_dq : (s.withPort x).dq = s.dq := rfl
@[simp] theorem withPort_port : (s.withPort x).port = x := rfl
@[simp] theorem withPort_hello : (s.withPort x).hello = s.hello := rfl
@[simp] theorem withPort_sweep : (s.withPort x).sweep = s.sweep := rfl
@[simp] theorem withPort_driver : (s.withPort x).driver = s.driver := rfl
@[simp] theorem withPort_monitor : (s.withPort x).monitor = s.monitor := rfl
@[simp] theorem withPort_arb : (s.withPort x).arb = s.arb := rfl
@[simp] theorem withPort_due : (s.withPort x).due = s.due := rfl
@[simp] theorem withPort_role : (s.withPort x).role = s.role := rfl
@[simp] theorem withPort_now : (s.withPort x).now = s.now := rfl
end

/-! ### withHello -/

section
variable (x : Hello)
@[simp] theorem withHello_pending : (s.withHello x).pending = s.pending := rfl
@[simp] theorem withHello_clock : (s.withHello x).clock = s.clock := rfl
@[simp] theorem withHello_resetLow : (s.withHello x).resetLow = s.resetLow := rfl
@[simp] theorem withHello_letter : (s.withHello x).letter = s.letter := rfl
@[simp] theorem withHello_busData : (s.withHello x).busData = s.busData := rfl
@[simp] theorem withHello_req : (s.withHello x).req = s.req := rfl
@[simp] theorem withHello_cfg : (s.withHello x).cfg = s.cfg := rfl
@[simp] theorem withHello_table : (s.withHello x).table = s.table := rfl
@[simp] theorem withHello_aging : (s.withHello x).aging = s.aging := rfl
@[simp] theorem withHello_pool : (s.withHello x).pool = s.pool := rfl
@[simp] theorem withHello_dq : (s.withHello x).dq = s.dq := rfl
@[simp] theorem withHello_port : (s.withHello x).port = s.port := rfl
@[simp] theorem withHello_hello : (s.withHello x).hello = x := rfl
@[simp] theorem withHello_sweep : (s.withHello x).sweep = s.sweep := rfl
@[simp] theorem withHello_driver : (s.withHello x).driver = s.driver := rfl
@[simp] theorem withHello_monitor : (s.withHello x).monitor = s.monitor := rfl
@[simp] theorem withHello_arb : (s.withHello x).arb = s.arb := rfl
@[simp] theorem withHello_due : (s.withHello x).due = s.due := rfl
@[simp] theorem withHello_role : (s.withHello x).role = s.role := rfl
@[simp] theorem withHello_now : (s.withHello x).now = s.now := rfl
@[simp] theorem withHello_up : (s.withHello x).up = s.up := rfl
end

/-! ### withSweep -/

section
variable (x : Sweep)
@[simp] theorem withSweep_pending : (s.withSweep x).pending = s.pending := rfl
@[simp] theorem withSweep_clock : (s.withSweep x).clock = s.clock := rfl
@[simp] theorem withSweep_resetLow : (s.withSweep x).resetLow = s.resetLow := rfl
@[simp] theorem withSweep_letter : (s.withSweep x).letter = s.letter := rfl
@[simp] theorem withSweep_busData : (s.withSweep x).busData = s.busData := rfl
@[simp] theorem withSweep_req : (s.withSweep x).req = s.req := rfl
@[simp] theorem withSweep_cfg : (s.withSweep x).cfg = s.cfg := rfl
@[simp] theorem withSweep_table : (s.withSweep x).table = s.table := rfl
@[simp] theorem withSweep_aging : (s.withSweep x).aging = s.aging := rfl
@[simp] theorem withSweep_pool : (s.withSweep x).pool = s.pool := rfl
@[simp] theorem withSweep_dq : (s.withSweep x).dq = s.dq := rfl
@[simp] theorem withSweep_port : (s.withSweep x).port = s.port := rfl
@[simp] theorem withSweep_hello : (s.withSweep x).hello = s.hello := rfl
@[simp] theorem withSweep_sweep : (s.withSweep x).sweep = x := rfl
@[simp] theorem withSweep_driver : (s.withSweep x).driver = s.driver := rfl
@[simp] theorem withSweep_monitor : (s.withSweep x).monitor = s.monitor := rfl
@[simp] theorem withSweep_arb : (s.withSweep x).arb = s.arb := rfl
@[simp] theorem withSweep_due : (s.withSweep x).due = s.due := rfl
@[simp] theorem withSweep_role : (s.withSweep x).role = s.role := rfl
@[simp] theorem withSweep_now : (s.withSweep x).now = s.now := rfl
@[simp] theorem withSweep_up : (s.withSweep x).up = s.up := rfl
end

/-! ### withDriver -/

section
variable (x : Driver)
@[simp] theorem withDriver_pending : (s.withDriver x).pending = s.pending := rfl
@[simp] theorem withDriver_clock : (s.withDriver x).clock = s.clock := rfl
@[simp] theorem withDriver_resetLow : (s.withDriver x).resetLow = s.resetLow := rfl
@[simp] theorem withDriver_letter : (s.withDriver x).letter = s.letter := rfl
@[simp] theorem withDriver_busData : (s.withDriver x).busData = s.busData := rfl
@[simp] theorem withDriver_req : (s.withDriver x).req = s.req := rfl
@[simp] theorem withDriver_cfg : (s.withDriver x).cfg = s.cfg := rfl
@[simp] theorem withDriver_table : (s.withDriver x).table = s.table := rfl
@[simp] theorem withDriver_aging : (s.withDriver x).aging = s.aging := rfl
@[simp] theorem withDriver_pool : (s.withDriver x).pool = s.pool := rfl
@[simp] theorem withDriver_dq : (s.withDriver x).dq = s.dq := rfl
@[simp] theorem withDriver_port : (s.withDriver x).port = s.port := rfl
@[simp] theorem withDriver_hello : (s.withDriver x).hello = s.hello := rfl
@[simp] theorem withDriver_sweep : (s.withDriver x).sweep = s.sweep := rfl
@[simp] theorem withDriver_driver : (s.withDriver x).driver = x := rfl
@[simp] theorem withDriver_monitor : (s.withDriver x).monitor = s.monitor := rfl
@[simp] theorem withDriver_arb : (s.withDriver x).arb = s.arb := rfl
@[simp] theorem withDriver_due : (s.withDriver x).due = s.due := rfl
@[simp] theorem withDriver_role : (s.withDriver x).role = s.role := rfl
@[simp] theorem withDriver_now : (s.withDriver x).now = s.now := rfl
@[simp] theorem withDriver_up : (s.withDriver x).up = s.up := rfl
end

/-! ### withMonitor -/

section
variable (x : Monitor)
@[simp] theorem withMonitor_pending : (s.withMonitor x).pending = s.pending := rfl
@[simp] theorem withMonitor_clock : (s.withMonitor x).clock = s.clock := rfl
@[simp] theorem withMonitor_resetLow : (s.withMonitor x).resetLow = s.resetLow := rfl
@[simp] theorem withMonitor_letter : (s.withMonitor x).letter = s.letter := rfl
@[simp] theorem withMonitor_busData : (s.withMonitor x).busData = s.busData := rfl
@[simp] theorem withMonitor_req : (s.withMonitor x).req = s.req := rfl
@[simp] theorem withMonitor_cfg : (s.withMonitor x).cfg = s.cfg := rfl
@[simp] theorem withMonitor_table : (s.withMonitor x).table = s.table := rfl
@[simp] theorem withMonitor_aging : (s.withMonitor x).aging = s.aging := rfl
@[simp] theorem withMonitor_pool : (s.withMonitor x).pool = s.pool := rfl
@[simp] theorem withMonitor_dq : (s.withMonitor x).dq = s.dq := rfl
@[simp] theorem withMonitor_port : (s.withMonitor x).port = s.port := rfl
@[simp] theorem withMonitor_hello : (s.withMonitor x).hello = s.hello := rfl
@[simp] theorem withMonitor_sweep : (s.withMonitor x).sweep = s.sweep := rfl
@[simp] theorem withMonitor_driver : (s.withMonitor x).driver = s.driver := rfl
@[simp] theorem withMonitor_monitor : (s.withMonitor x).monitor = x := rfl
@[simp] theorem withMonitor_arb : (s.withMonitor x).arb = s.arb := rfl
@[simp] theorem withMonitor_due : (s.withMonitor x).due = s.due := rfl
@[simp] theorem withMonitor_role : (s.withMonitor x).role = s.role := rfl
@[simp] theorem withMonitor_now : (s.withMonitor x).now = s.now := rfl
@[simp] theorem withMonitor_up : (s.withMonitor x).up = s.up := rfl
end

/-! ### withArb -/

section
variable (x : Arbiter)
@[simp] theorem withArb_pending : (s.withArb x).pending = s.pending := rfl
@[simp] theorem withArb_clock : (s.withArb x).clock = s.clock := rfl
@[simp] theorem withArb_resetLow : (s.withArb x).resetLow = s.resetLow := rfl
@[simp] theorem withArb_letter : (s.withArb x).letter = s.letter := rfl
@[simp] theorem withArb_busData : (s.withArb x).busData = s.busData := rfl
@[simp] theorem withArb_req : (s.withArb x).req = s.req := rfl
@[simp] theorem withArb_cfg : (s.withArb x).cfg = s.cfg := rfl
@[simp] theorem withArb_table : (s.withArb x).table = s.table := rfl
@[simp] theorem withArb_aging : (s.withArb x).aging = s.aging := rfl
@[simp] theorem withArb_pool : (s.withArb x).pool = s.pool := rfl
@[simp] theorem withArb_dq : (s.withArb x).dq = s.dq := rfl
@[simp] theorem withArb_port : (s.withArb x).port = s.port := rfl
@[simp] theorem withArb_hello : (s.withArb x).hello = s.hello := rfl
@[simp] theorem withArb_sweep : (s.withArb x).sweep = s.sweep := rfl
@[simp] theorem withArb_driver : (s.withArb x).driver = s.driver := rfl
@[simp] theorem withArb_monitor : (s.withArb x).monitor = s.monitor := rfl
@[simp] theorem withArb_arb : (s.withArb x).arb = x := rfl
@[simp] theorem withArb_due : (s.withArb x).due = s.due := rfl
@[simp] theorem withArb_now : (s.withArb x).now = s.now := rfl
@[simp] theorem withArb_up : (s.withArb x).up = s.up := rfl
end

/-! ### withDue -/

section
variable (x : TickDue)
@[simp] theorem withDue_pending : (s.withDue x).pending = s.pending := rfl
@[simp] theorem withDue_clock : (s.withDue x).clock = s.clock := rfl
@[simp] theorem withDue_resetLow : (s.withDue x).resetLow = s.resetLow := rfl
@[simp] theorem withDue_letter : (s.withDue x).letter = s.letter := rfl
@[simp] theorem withDue_busData : (s.withDue x).busData = s.busData := rfl
@[simp] theorem withDue_req : (s.withDue x).req = s.req := rfl
@[simp] theorem withDue_cfg : (s.withDue x).cfg = s.cfg := rfl
@[simp] theorem withDue_table : (s.withDue x).table = s.table := rfl
@[simp] theorem withDue_aging : (s.withDue x).aging = s.aging := rfl
@[simp] theorem withDue_pool : (s.withDue x).pool = s.pool := rfl
@[simp] theorem withDue_dq : (s.withDue x).dq = s.dq := rfl
@[simp] theorem withDue_port : (s.withDue x).port = s.port := rfl
@[simp] theorem withDue_hello : (s.withDue x).hello = s.hello := rfl
@[simp] theorem withDue_sweep : (s.withDue x).sweep = s.sweep := rfl
@[simp] theorem withDue_driver : (s.withDue x).driver = s.driver := rfl
@[simp] theorem withDue_monitor : (s.withDue x).monitor = s.monitor := rfl
@[simp] theorem withDue_arb : (s.withDue x).arb = s.arb := rfl
@[simp] theorem withDue_due : (s.withDue x).due = x := rfl
@[simp] theorem withDue_role : (s.withDue x).role = s.role := rfl
@[simp] theorem withDue_now : (s.withDue x).now = s.now := rfl
@[simp] theorem withDue_up : (s.withDue x).up = s.up := rfl
end

end Sys2Proof.Machine.State
end

