-- ==== Sys2Proof/Laws/FrameTable.lean ====
section
/-! SUPPORT. What each operation of the shared operations, the Port Pool and the Delta Queue leaves as it was: one lemma per operation, so that no later
proof unfolds one to carry a field across it. -/

namespace Sys2Proof.Machine

namespace Pool

@[simp] theorem bind_geometry (p : Pool) (n : NatPart) :
    (p.bind n).laneMode = p.laneMode ∧ (p.bind n).addrCount = p.addrCount ∧
    (p.bind n).staticBlocks = p.staticBlocks := ⟨rfl, rfl, rfl⟩

@[simp] theorem evict_geometry (p : Pool) :
    (p.evict).laneMode = p.laneMode ∧ (p.evict).addrCount = p.addrCount ∧
    (p.evict).staticBlocks = p.staticBlocks := by unfold evict; split <;> exact ⟨rfl, rfl, rfl⟩

@[simp] theorem release_geometry (p : Pool) (n : NatPart) (hold : Nat) (now : Word) :
    (p.release n hold now).laneMode = p.laneMode ∧ (p.release n hold now).addrCount = p.addrCount ∧
    (p.release n hold now).staticBlocks = p.staticBlocks := by unfold release; dsimp only; split <;> simp

@[simp] theorem allFree_geometry (p : Pool) :
    (p.allFree).laneMode = p.laneMode ∧ (p.allFree).addrCount = p.addrCount ∧
    (p.allFree).staticBlocks = p.staticBlocks := ⟨rfl, rfl, rfl⟩

@[simp] theorem allocated_geometry (p : Pool) (i : BitVec 2) (port : Nat) :
    (p.allocated i port).laneMode = p.laneMode ∧ (p.allocated i port).addrCount = p.addrCount ∧
    (p.allocated i port).staticBlocks = p.staticBlocks := ⟨rfl, rfl, rfl⟩

end Pool

namespace State

@[simp] theorem latch_frame (s : State) (e : Event) :
    (s.latch e).pending = s.pending ∧ (s.latch e).clock = s.clock ∧ (s.latch e).resetLow = s.resetLow ∧
    (s.latch e).letter = s.letter ∧ (s.latch e).busData = s.busData ∧ (s.latch e).req.queue = s.req.queue ∧
    (s.latch e).req.completions = s.req.completions ∧ (s.latch e).req.running = s.req.running ∧
    (s.latch e).req.assembling = s.req.assembling ∧ (s.latch e).req.readPos = s.req.readPos ∧
    (s.latch e).req.enable = s.req.enable ∧ (s.latch e).req.drops = s.req.drops ∧
    (s.latch e).req.counters = s.req.counters ∧ (s.latch e).cfg = s.cfg ∧ (s.latch e).table = s.table ∧
    (s.latch e).aging = s.aging ∧ (s.latch e).pool = s.pool ∧ (s.latch e).dq = s.dq ∧ (s.latch e).port = s.port ∧
    (s.latch e).hello = s.hello ∧ (s.latch e).sweep = s.sweep ∧ (s.latch e).driver = s.driver ∧
    (s.latch e).monitor = s.monitor ∧ (s.latch e).arb = s.arb ∧ (s.latch e).due = s.due ∧ (s.latch e).role = s.role ∧
    (s.latch e).now = s.now := by
  unfold latch; simp

@[simp] theorem withCounters_frame (s : State) (c : Counters) :
    (s.withCounters c).pending = s.pending ∧ (s.withCounters c).clock = s.clock ∧
    (s.withCounters c).resetLow = s.resetLow ∧ (s.withCounters c).letter = s.letter ∧
    (s.withCounters c).busData = s.busData ∧ (s.withCounters c).req.queue = s.req.queue ∧
    (s.withCounters c).req.completions = s.req.completions ∧ (s.withCounters c).req.running = s.req.running ∧
    (s.withCounters c).req.assembling = s.req.assembling ∧ (s.withCounters c).req.readPos = s.req.readPos ∧
    (s.withCounters c).req.latch = s.req.latch ∧ (s.withCounters c).req.enable = s.req.enable ∧
    (s.withCounters c).req.drops = s.req.drops ∧ (s.withCounters c).cfg = s.cfg ∧
    (s.withCounters c).table = s.table ∧ (s.withCounters c).aging = s.aging ∧ (s.withCounters c).pool = s.pool ∧
    (s.withCounters c).dq = s.dq ∧ (s.withCounters c).port = s.port ∧ (s.withCounters c).hello = s.hello ∧
    (s.withCounters c).sweep = s.sweep ∧ (s.withCounters c).driver = s.driver ∧
    (s.withCounters c).monitor = s.monitor ∧ (s.withCounters c).arb = s.arb ∧ (s.withCounters c).due = s.due ∧
    (s.withCounters c).role = s.role ∧ (s.withCounters c).now = s.now := by
  unfold withCounters; simp

@[simp] theorem countResent_frame (s : State) (n : Nat) :
    (s.countResent n).pending = s.pending ∧ (s.countResent n).clock = s.clock ∧
    (s.countResent n).resetLow = s.resetLow ∧ (s.countResent n).letter = s.letter ∧
    (s.countResent n).busData = s.busData ∧ (s.countResent n).req.queue = s.req.queue ∧
    (s.countResent n).req.completions = s.req.completions ∧ (s.countResent n).req.running = s.req.running ∧
    (s.countResent n).req.assembling = s.req.assembling ∧ (s.countResent n).req.readPos = s.req.readPos ∧
    (s.countResent n).req.latch = s.req.latch ∧ (s.countResent n).req.enable = s.req.enable ∧
    (s.countResent n).req.drops = s.req.drops ∧ (s.countResent n).cfg = s.cfg ∧ (s.countResent n).table = s.table ∧
    (s.countResent n).aging = s.aging ∧ (s.countResent n).pool = s.pool ∧ (s.countResent n).dq = s.dq ∧
    (s.countResent n).port = s.port ∧ (s.countResent n).hello = s.hello ∧ (s.countResent n).sweep = s.sweep ∧
    (s.countResent n).driver = s.driver ∧ (s.countResent n).monitor = s.monitor ∧ (s.countResent n).arb = s.arb ∧
    (s.countResent n).due = s.due ∧ (s.countResent n).role = s.role ∧ (s.countResent n).now = s.now ∧
    (s.countResent n).up = s.up := by
  simp [countResent, role, up]

@[simp] theorem countDiscarded_frame (s : State) :
    (s.countDiscarded).pending = s.pending ∧ (s.countDiscarded).clock = s.clock ∧
    (s.countDiscarded).resetLow = s.resetLow ∧ (s.countDiscarded).letter = s.letter ∧
    (s.countDiscarded).busData = s.busData ∧ (s.countDiscarded).req.queue = s.req.queue ∧
    (s.countDiscarded).req.completions = s.req.completions ∧ (s.countDiscarded).req.running = s.req.running ∧
    (s.countDiscarded).req.assembling = s.req.assembling ∧ (s.countDiscarded).req.readPos = s.req.readPos ∧
    (s.countDiscarded).req.latch = s.req.latch ∧ (s.countDiscarded).req.enable = s.req.enable ∧
    (s.countDiscarded).req.drops = s.req.drops ∧ (s.countDiscarded).cfg = s.cfg ∧
    (s.countDiscarded).table = s.table ∧ (s.countDiscarded).aging = s.aging ∧ (s.countDiscarded).pool = s.pool ∧
    (s.countDiscarded).dq = s.dq ∧ (s.countDiscarded).port = s.port ∧ (s.countDiscarded).hello = s.hello ∧
    (s.countDiscarded).sweep = s.sweep ∧ (s.countDiscarded).driver = s.driver ∧
    (s.countDiscarded).monitor = s.monitor ∧ (s.countDiscarded).arb = s.arb ∧ (s.countDiscarded).due = s.due ∧
    (s.countDiscarded).role = s.role ∧ (s.countDiscarded).now = s.now ∧ (s.countDiscarded).up = s.up := by
  simp [countDiscarded, role, up]

@[simp] theorem countCoalesced_frame (s : State) :
    (s.countCoalesced).pending = s.pending ∧ (s.countCoalesced).clock = s.clock ∧
    (s.countCoalesced).resetLow = s.resetLow ∧ (s.countCoalesced).letter = s.letter ∧
    (s.countCoalesced).busData = s.busData ∧ (s.countCoalesced).req.queue = s.req.queue ∧
    (s.countCoalesced).req.completions = s.req.completions ∧ (s.countCoalesced).req.running = s.req.running ∧
    (s.countCoalesced).req.assembling = s.req.assembling ∧ (s.countCoalesced).req.readPos = s.req.readPos ∧
    (s.countCoalesced).req.latch = s.req.latch ∧ (s.countCoalesced).req.enable = s.req.enable ∧
    (s.countCoalesced).req.drops = s.req.drops ∧ (s.countCoalesced).cfg = s.cfg ∧
    (s.countCoalesced).table = s.table ∧ (s.countCoalesced).aging = s.aging ∧ (s.countCoalesced).pool = s.pool ∧
    (s.countCoalesced).dq = s.dq ∧ (s.countCoalesced).port = s.port ∧ (s.countCoalesced).hello = s.hello ∧
    (s.countCoalesced).sweep = s.sweep ∧ (s.countCoalesced).driver = s.driver ∧
    (s.countCoalesced).monitor = s.monitor ∧ (s.countCoalesced).arb = s.arb ∧ (s.countCoalesced).due = s.due ∧
    (s.countCoalesced).role = s.role ∧ (s.countCoalesced).now = s.now ∧ (s.countCoalesced).up = s.up := by
  simp [countCoalesced, role, up]

@[simp] theorem countSuppressed_frame (s : State) :
    (s.countSuppressed).pending = s.pending ∧ (s.countSuppressed).clock = s.clock ∧
    (s.countSuppressed).resetLow = s.resetLow ∧ (s.countSuppressed).letter = s.letter ∧
    (s.countSuppressed).busData = s.busData ∧ (s.countSuppressed).req.queue = s.req.queue ∧
    (s.countSuppressed).req.completions = s.req.completions ∧ (s.countSuppressed).req.running = s.req.running ∧
    (s.countSuppressed).req.assembling = s.req.assembling ∧ (s.countSuppressed).req.readPos = s.req.readPos ∧
    (s.countSuppressed).req.latch = s.req.latch ∧ (s.countSuppressed).req.enable = s.req.enable ∧
    (s.countSuppressed).req.drops = s.req.drops ∧ (s.countSuppressed).cfg = s.cfg ∧
    (s.countSuppressed).table = s.table ∧ (s.countSuppressed).aging = s.aging ∧ (s.countSuppressed).pool = s.pool ∧
    (s.countSuppressed).dq = s.dq ∧ (s.countSuppressed).port = s.port ∧ (s.countSuppressed).hello = s.hello ∧
    (s.countSuppressed).sweep = s.sweep ∧ (s.countSuppressed).driver = s.driver ∧
    (s.countSuppressed).monitor = s.monitor ∧ (s.countSuppressed).arb = s.arb ∧ (s.countSuppressed).due = s.due ∧
    (s.countSuppressed).role = s.role ∧ (s.countSuppressed).now = s.now ∧ (s.countSuppressed).up = s.up := by
  simp [countSuppressed, role, up]

@[simp] theorem countOverflow_frame (s : State) :
    (s.countOverflow).pending = s.pending ∧ (s.countOverflow).clock = s.clock ∧
    (s.countOverflow).resetLow = s.resetLow ∧ (s.countOverflow).letter = s.letter ∧
    (s.countOverflow).busData = s.busData ∧ (s.countOverflow).req.queue = s.req.queue ∧
    (s.countOverflow).req.completions = s.req.completions ∧ (s.countOverflow).req.running = s.req.running ∧
    (s.countOverflow).req.assembling = s.req.assembling ∧ (s.countOverflow).req.readPos = s.req.readPos ∧
    (s.countOverflow).req.latch = s.req.latch ∧ (s.countOverflow).req.enable = s.req.enable ∧
    (s.countOverflow).req.drops = s.req.drops ∧ (s.countOverflow).cfg = s.cfg ∧ (s.countOverflow).table = s.table ∧
    (s.countOverflow).aging = s.aging ∧ (s.countOverflow).pool = s.pool ∧ (s.countOverflow).dq = s.dq ∧
    (s.countOverflow).port = s.port ∧ (s.countOverflow).hello = s.hello ∧ (s.countOverflow).sweep = s.sweep ∧
    (s.countOverflow).driver = s.driver ∧ (s.countOverflow).monitor = s.monitor ∧ (s.countOverflow).arb = s.arb ∧
    (s.countOverflow).due = s.due ∧ (s.countOverflow).role = s.role ∧ (s.countOverflow).now = s.now ∧
    (s.countOverflow).up = s.up := by
  simp [countOverflow, role, up]

@[simp] theorem countEarly_frame (s : State) :
    (s.countEarly).pending = s.pending ∧ (s.countEarly).clock = s.clock ∧ (s.countEarly).resetLow = s.resetLow ∧
    (s.countEarly).letter = s.letter ∧ (s.countEarly).busData = s.busData ∧ (s.countEarly).req.queue = s.req.queue ∧
    (s.countEarly).req.completions = s.req.completions ∧ (s.countEarly).req.running = s.req.running ∧
    (s.countEarly).req.assembling = s.req.assembling ∧ (s.countEarly).req.readPos = s.req.readPos ∧
    (s.countEarly).req.latch = s.req.latch ∧ (s.countEarly).req.enable = s.req.enable ∧
    (s.countEarly).req.drops = s.req.drops ∧ (s.countEarly).cfg = s.cfg ∧ (s.countEarly).table = s.table ∧
    (s.countEarly).aging = s.aging ∧ (s.countEarly).pool = s.pool ∧ (s.countEarly).dq = s.dq ∧
    (s.countEarly).port = s.port ∧ (s.countEarly).hello = s.hello ∧ (s.countEarly).sweep = s.sweep ∧
    (s.countEarly).driver = s.driver ∧ (s.countEarly).monitor = s.monitor ∧ (s.countEarly).arb = s.arb ∧
    (s.countEarly).due = s.due ∧ (s.countEarly).role = s.role ∧ (s.countEarly).now = s.now ∧
    (s.countEarly).up = s.up := by
  simp [countEarly, role, up]

@[simp] theorem countGarbled_frame (s : State) :
    (s.countGarbled).pending = s.pending ∧ (s.countGarbled).clock = s.clock ∧
    (s.countGarbled).resetLow = s.resetLow ∧ (s.countGarbled).letter = s.letter ∧
    (s.countGarbled).busData = s.busData ∧ (s.countGarbled).req.queue = s.req.queue ∧
    (s.countGarbled).req.completions = s.req.completions ∧ (s.countGarbled).req.running = s.req.running ∧
    (s.countGarbled).req.assembling = s.req.assembling ∧ (s.countGarbled).req.readPos = s.req.readPos ∧
    (s.countGarbled).req.latch = s.req.latch ∧ (s.countGarbled).req.enable = s.req.enable ∧
    (s.countGarbled).req.drops = s.req.drops ∧ (s.countGarbled).cfg = s.cfg ∧ (s.countGarbled).table = s.table ∧
    (s.countGarbled).aging = s.aging ∧ (s.countGarbled).pool = s.pool ∧ (s.countGarbled).dq = s.dq ∧
    (s.countGarbled).port = s.port ∧ (s.countGarbled).hello = s.hello ∧ (s.countGarbled).sweep = s.sweep ∧
    (s.countGarbled).driver = s.driver ∧ (s.countGarbled).monitor = s.monitor ∧ (s.countGarbled).arb = s.arb ∧
    (s.countGarbled).due = s.due ∧ (s.countGarbled).role = s.role ∧ (s.countGarbled).now = s.now ∧
    (s.countGarbled).up = s.up := by
  simp [countGarbled, role, up]

@[simp] theorem countEnded_frame (s : State) :
    (s.countEnded).pending = s.pending ∧ (s.countEnded).clock = s.clock ∧ (s.countEnded).resetLow = s.resetLow ∧
    (s.countEnded).letter = s.letter ∧ (s.countEnded).busData = s.busData ∧ (s.countEnded).req.queue = s.req.queue ∧
    (s.countEnded).req.completions = s.req.completions ∧ (s.countEnded).req.running = s.req.running ∧
    (s.countEnded).req.assembling = s.req.assembling ∧ (s.countEnded).req.readPos = s.req.readPos ∧
    (s.countEnded).req.latch = s.req.latch ∧ (s.countEnded).req.enable = s.req.enable ∧
    (s.countEnded).req.drops = s.req.drops ∧ (s.countEnded).cfg = s.cfg ∧ (s.countEnded).table = s.table ∧
    (s.countEnded).aging = s.aging ∧ (s.countEnded).pool = s.pool ∧ (s.countEnded).dq = s.dq ∧
    (s.countEnded).port = s.port ∧ (s.countEnded).hello = s.hello ∧ (s.countEnded).sweep = s.sweep ∧
    (s.countEnded).driver = s.driver ∧ (s.countEnded).monitor = s.monitor ∧ (s.countEnded).arb = s.arb ∧
    (s.countEnded).due = s.due ∧ (s.countEnded).role = s.role ∧ (s.countEnded).now = s.now ∧
    (s.countEnded).up = s.up := by
  simp [countEnded, role, up]

@[simp] theorem atPhase_frame (s : State) (phase : Nat) :
    (s.atPhase phase).pending = s.pending ∧ (s.atPhase phase).resetLow = s.resetLow ∧
    (s.atPhase phase).letter = s.letter ∧ (s.atPhase phase).busData = s.busData ∧ (s.atPhase phase).req = s.req ∧
    (s.atPhase phase).cfg = s.cfg ∧ (s.atPhase phase).table = s.table ∧ (s.atPhase phase).aging = s.aging ∧
    (s.atPhase phase).pool = s.pool ∧ (s.atPhase phase).dq = s.dq ∧ (s.atPhase phase).port = s.port ∧
    (s.atPhase phase).hello = s.hello ∧ (s.atPhase phase).sweep = s.sweep ∧ (s.atPhase phase).driver = s.driver ∧
    (s.atPhase phase).monitor = s.monitor ∧ (s.atPhase phase).arb = s.arb ∧ (s.atPhase phase).due = s.due ∧
    (s.atPhase phase).role = s.role ∧ (s.atPhase phase).now = s.now := by
  unfold atPhase; simp

@[simp] theorem passMs_frame (s : State) (n : Nat) :
    (s.passMs n).pending = s.pending ∧ (s.passMs n).resetLow = s.resetLow ∧ (s.passMs n).letter = s.letter ∧
    (s.passMs n).busData = s.busData ∧ (s.passMs n).req = s.req ∧ (s.passMs n).cfg = s.cfg ∧
    (s.passMs n).table = s.table ∧ (s.passMs n).aging = s.aging ∧ (s.passMs n).pool = s.pool ∧
    (s.passMs n).dq = s.dq ∧ (s.passMs n).port = s.port ∧ (s.passMs n).hello = s.hello ∧
    (s.passMs n).sweep = s.sweep ∧ (s.passMs n).driver = s.driver ∧ (s.passMs n).monitor = s.monitor ∧
    (s.passMs n).arb = s.arb ∧ (s.passMs n).due = s.due ∧ (s.passMs n).role = s.role ∧ (s.passMs n).now = s.now := by
  unfold passMs; simp

@[simp] theorem setSlot_frame (s : State) (i : Nat) (x : Slot) :
    (s.setSlot i x).pending = s.pending ∧ (s.setSlot i x).clock = s.clock ∧ (s.setSlot i x).resetLow = s.resetLow ∧
    (s.setSlot i x).letter = s.letter ∧ (s.setSlot i x).busData = s.busData ∧ (s.setSlot i x).req = s.req ∧
    (s.setSlot i x).cfg = s.cfg ∧ (s.setSlot i x).aging = s.aging ∧ (s.setSlot i x).pool = s.pool ∧
    (s.setSlot i x).dq = s.dq ∧ (s.setSlot i x).port = s.port ∧ (s.setSlot i x).hello = s.hello ∧
    (s.setSlot i x).sweep = s.sweep ∧ (s.setSlot i x).driver = s.driver ∧ (s.setSlot i x).monitor = s.monitor ∧
    (s.setSlot i x).arb = s.arb ∧ (s.setSlot i x).due = s.due ∧ (s.setSlot i x).role = s.role ∧
    (s.setSlot i x).now = s.now := by
  unfold setSlot; simp

@[simp] theorem mapSlotRecord_frame (s : State) (i : Nat) (f : Record → Record) :
    (s.mapSlotRecord i f).pending = s.pending ∧ (s.mapSlotRecord i f).clock = s.clock ∧
    (s.mapSlotRecord i f).resetLow = s.resetLow ∧ (s.mapSlotRecord i f).letter = s.letter ∧
    (s.mapSlotRecord i f).busData = s.busData ∧ (s.mapSlotRecord i f).req = s.req ∧
    (s.mapSlotRecord i f).cfg = s.cfg ∧ (s.mapSlotRecord i f).aging = s.aging ∧ (s.mapSlotRecord i f).pool = s.pool ∧
    (s.mapSlotRecord i f).dq = s.dq ∧ (s.mapSlotRecord i f).port = s.port ∧ (s.mapSlotRecord i f).hello = s.hello ∧
    (s.mapSlotRecord i f).sweep = s.sweep ∧ (s.mapSlotRecord i f).driver = s.driver ∧
    (s.mapSlotRecord i f).monitor = s.monitor ∧ (s.mapSlotRecord i f).arb = s.arb ∧
    (s.mapSlotRecord i f).due = s.due ∧ (s.mapSlotRecord i f).role = s.role ∧ (s.mapSlotRecord i f).now = s.now ∧
    (s.mapSlotRecord i f).up = s.up := by
  simp [mapSlotRecord, role, up]

@[simp] theorem beginRequest_frame (s : State) :
    (s.beginRequest).pending = s.pending ∧ (s.beginRequest).clock = s.clock ∧
    (s.beginRequest).resetLow = s.resetLow ∧ (s.beginRequest).letter = s.letter ∧
    (s.beginRequest).busData = s.busData ∧ (s.beginRequest).req.completions = s.req.completions ∧
    (s.beginRequest).req.running = s.req.running ∧ (s.beginRequest).req.assembling = s.req.assembling ∧
    (s.beginRequest).req.readPos = s.req.readPos ∧ (s.beginRequest).req.latch = s.req.latch ∧
    (s.beginRequest).req.enable = s.req.enable ∧ (s.beginRequest).req.drops = s.req.drops ∧
    (s.beginRequest).req.counters = s.req.counters ∧ (s.beginRequest).cfg = s.cfg ∧
    (s.beginRequest).table = s.table ∧ (s.beginRequest).aging = s.aging ∧ (s.beginRequest).pool = s.pool ∧
    (s.beginRequest).dq = s.dq ∧ (s.beginRequest).port = s.port ∧ (s.beginRequest).hello = s.hello ∧
    (s.beginRequest).sweep = s.sweep ∧ (s.beginRequest).driver = s.driver ∧ (s.beginRequest).monitor = s.monitor ∧
    (s.beginRequest).arb = s.arb ∧ (s.beginRequest).due = s.due ∧ (s.beginRequest).role = s.role ∧
    (s.beginRequest).now = s.now := by
  unfold beginRequest; simp

@[simp] theorem post_frame (s : State) (kind : BitVec 6) (tag : BitVec 16) (status : Status) (result : List Word) :
    (s.post kind tag status result).pending = s.pending ∧ (s.post kind tag status result).clock = s.clock ∧
    (s.post kind tag status result).resetLow = s.resetLow ∧ (s.post kind tag status result).letter = s.letter ∧
    (s.post kind tag status result).busData = s.busData ∧ (s.post kind tag status result).req.queue = s.req.queue ∧
    (s.post kind tag status result).req.running = s.req.running ∧
    (s.post kind tag status result).req.assembling = s.req.assembling ∧
    (s.post kind tag status result).req.readPos = s.req.readPos ∧
    (s.post kind tag status result).req.enable = s.req.enable ∧
    (s.post kind tag status result).req.drops = s.req.drops ∧
    (s.post kind tag status result).req.counters = s.req.counters ∧ (s.post kind tag status result).cfg = s.cfg ∧
    (s.post kind tag status result).table = s.table ∧ (s.post kind tag status result).aging = s.aging ∧
    (s.post kind tag status result).pool = s.pool ∧ (s.post kind tag status result).dq = s.dq ∧
    (s.post kind tag status result).port = s.port ∧ (s.post kind tag status result).hello = s.hello ∧
    (s.post kind tag status result).sweep = s.sweep ∧ (s.post kind tag status result).driver = s.driver ∧
    (s.post kind tag status result).monitor = s.monitor ∧ (s.post kind tag status result).arb = s.arb ∧
    (s.post kind tag status result).due = s.due ∧ (s.post kind tag status result).role = s.role ∧
    (s.post kind tag status result).now = s.now ∧ (s.post kind tag status result).up = s.up := by
  simp [post, role, up]

@[simp] theorem complete_frame (s : State) (r : Request) (status : Status) (result : List Word) :
    (s.complete r status result).pending = s.pending ∧ (s.complete r status result).clock = s.clock ∧
    (s.complete r status result).resetLow = s.resetLow ∧ (s.complete r status result).letter = s.letter ∧
    (s.complete r status result).busData = s.busData ∧ (s.complete r status result).req.queue = s.req.queue ∧
    (s.complete r status result).req.running = s.req.running ∧
    (s.complete r status result).req.assembling = s.req.assembling ∧
    (s.complete r status result).req.readPos = s.req.readPos ∧
    (s.complete r status result).req.enable = s.req.enable ∧ (s.complete r status result).req.drops = s.req.drops ∧
    (s.complete r status result).req.counters = s.req.counters ∧ (s.complete r status result).cfg = s.cfg ∧
    (s.complete r status result).table = s.table ∧ (s.complete r status result).aging = s.aging ∧
    (s.complete r status result).pool = s.pool ∧ (s.complete r status result).dq = s.dq ∧
    (s.complete r status result).port = s.port ∧ (s.complete r status result).hello = s.hello ∧
    (s.complete r status result).sweep = s.sweep ∧ (s.complete r status result).driver = s.driver ∧
    (s.complete r status result).monitor = s.monitor ∧ (s.complete r status result).arb = s.arb ∧
    (s.complete r status result).due = s.due ∧ (s.complete r status result).role = s.role ∧
    (s.complete r status result).now = s.now ∧ (s.complete r status result).up = s.up := by
  unfold complete; simp

@[simp] theorem evaluate_frame (s : State) (i : Fin 4) :
    (s.evaluate i).pending = s.pending ∧ (s.evaluate i).clock = s.clock ∧ (s.evaluate i).resetLow = s.resetLow ∧
    (s.evaluate i).letter = s.letter ∧ (s.evaluate i).busData = s.busData ∧ (s.evaluate i).req.queue = s.req.queue ∧
    (s.evaluate i).req.completions = s.req.completions ∧ (s.evaluate i).req.running = s.req.running ∧
    (s.evaluate i).req.assembling = s.req.assembling ∧ (s.evaluate i).req.readPos = s.req.readPos ∧
    (s.evaluate i).req.enable = s.req.enable ∧ (s.evaluate i).req.drops = s.req.drops ∧
    (s.evaluate i).req.counters = s.req.counters ∧ (s.evaluate i).cfg = s.cfg ∧ (s.evaluate i).table = s.table ∧
    (s.evaluate i).aging = s.aging ∧ (s.evaluate i).pool.laneMode = s.pool.laneMode ∧
    (s.evaluate i).pool.quarantine = s.pool.quarantine ∧ (s.evaluate i).pool.bound = s.pool.bound ∧
    (s.evaluate i).pool.addrCount = s.pool.addrCount ∧ (s.evaluate i).pool.staticBlocks = s.pool.staticBlocks ∧
    (s.evaluate i).pool.cursors = s.pool.cursors ∧ (s.evaluate i).dq = s.dq ∧ (s.evaluate i).port = s.port ∧
    (s.evaluate i).hello = s.hello ∧ (s.evaluate i).sweep = s.sweep ∧ (s.evaluate i).driver = s.driver ∧
    (s.evaluate i).monitor = s.monitor ∧ (s.evaluate i).arb = s.arb ∧ (s.evaluate i).due = s.due ∧
    (s.evaluate i).role = s.role ∧ (s.evaluate i).now = s.now := by
  unfold evaluate; (repeat' split) <;> simp

@[simp] theorem evaluateWhere_frame (s : State) (which : Nat → Bool) :
    (s.evaluateWhere which).pending = s.pending ∧ (s.evaluateWhere which).clock = s.clock ∧
    (s.evaluateWhere which).resetLow = s.resetLow ∧ (s.evaluateWhere which).letter = s.letter ∧
    (s.evaluateWhere which).busData = s.busData ∧ (s.evaluateWhere which).req.queue = s.req.queue ∧
    (s.evaluateWhere which).req.completions = s.req.completions ∧
    (s.evaluateWhere which).req.running = s.req.running ∧ (s.evaluateWhere which).req.assembling = s.req.assembling ∧
    (s.evaluateWhere which).req.readPos = s.req.readPos ∧ (s.evaluateWhere which).req.enable = s.req.enable ∧
    (s.evaluateWhere which).req.drops = s.req.drops ∧ (s.evaluateWhere which).req.counters = s.req.counters ∧
    (s.evaluateWhere which).cfg = s.cfg ∧ (s.evaluateWhere which).table = s.table ∧
    (s.evaluateWhere which).aging = s.aging ∧ (s.evaluateWhere which).pool.laneMode = s.pool.laneMode ∧
    (s.evaluateWhere which).pool.quarantine = s.pool.quarantine ∧ (s.evaluateWhere which).pool.bound = s.pool.bound ∧
    (s.evaluateWhere which).pool.addrCount = s.pool.addrCount ∧
    (s.evaluateWhere which).pool.staticBlocks = s.pool.staticBlocks ∧
    (s.evaluateWhere which).pool.cursors = s.pool.cursors ∧ (s.evaluateWhere which).dq = s.dq ∧
    (s.evaluateWhere which).port = s.port ∧ (s.evaluateWhere which).hello = s.hello ∧
    (s.evaluateWhere which).sweep = s.sweep ∧ (s.evaluateWhere which).driver = s.driver ∧
    (s.evaluateWhere which).monitor = s.monitor ∧ (s.evaluateWhere which).arb = s.arb ∧
    (s.evaluateWhere which).due = s.due ∧ (s.evaluateWhere which).role = s.role ∧
    (s.evaluateWhere which).now = s.now := by
  unfold evaluateWhere; simp only [List.foldl]; (repeat' split) <;> simp

@[simp] theorem evaluateAll_frame (s : State) :
    (s.evaluateAll).pending = s.pending ∧ (s.evaluateAll).clock = s.clock ∧ (s.evaluateAll).resetLow = s.resetLow ∧
    (s.evaluateAll).letter = s.letter ∧ (s.evaluateAll).busData = s.busData ∧
    (s.evaluateAll).req.queue = s.req.queue ∧ (s.evaluateAll).req.completions = s.req.completions ∧
    (s.evaluateAll).req.running = s.req.running ∧ (s.evaluateAll).req.assembling = s.req.assembling ∧
    (s.evaluateAll).req.readPos = s.req.readPos ∧ (s.evaluateAll).req.enable = s.req.enable ∧
    (s.evaluateAll).req.drops = s.req.drops ∧ (s.evaluateAll).req.counters = s.req.counters ∧
    (s.evaluateAll).cfg = s.cfg ∧ (s.evaluateAll).table = s.table ∧ (s.evaluateAll).aging = s.aging ∧
    (s.evaluateAll).pool.laneMode = s.pool.laneMode ∧ (s.evaluateAll).pool.quarantine = s.pool.quarantine ∧
    (s.evaluateAll).pool.bound = s.pool.bound ∧ (s.evaluateAll).pool.addrCount = s.pool.addrCount ∧
    (s.evaluateAll).pool.staticBlocks = s.pool.staticBlocks ∧ (s.evaluateAll).pool.cursors = s.pool.cursors ∧
    (s.evaluateAll).dq = s.dq ∧ (s.evaluateAll).port = s.port ∧ (s.evaluateAll).hello = s.hello ∧
    (s.evaluateAll).sweep = s.sweep ∧ (s.evaluateAll).driver = s.driver ∧ (s.evaluateAll).monitor = s.monitor ∧
    (s.evaluateAll).arb = s.arb ∧ (s.evaluateAll).due = s.due ∧ (s.evaluateAll).role = s.role ∧
    (s.evaluateAll).now = s.now ∧ (s.evaluateAll).up = s.up := by
  simp [evaluateAll, role, up]

@[simp] theorem changePool_frame (s : State) (f : Pool → Pool) :
    (s.changePool f).pending = s.pending ∧ (s.changePool f).clock = s.clock ∧
    (s.changePool f).resetLow = s.resetLow ∧ (s.changePool f).letter = s.letter ∧
    (s.changePool f).busData = s.busData ∧ (s.changePool f).req.queue = s.req.queue ∧
    (s.changePool f).req.completions = s.req.completions ∧ (s.changePool f).req.running = s.req.running ∧
    (s.changePool f).req.assembling = s.req.assembling ∧ (s.changePool f).req.readPos = s.req.readPos ∧
    (s.changePool f).req.enable = s.req.enable ∧ (s.changePool f).req.drops = s.req.drops ∧
    (s.changePool f).req.counters = s.req.counters ∧ (s.changePool f).cfg = s.cfg ∧
    (s.changePool f).table = s.table ∧ (s.changePool f).aging = s.aging ∧
    (s.changePool f).pool.laneMode = (f s.pool).laneMode ∧ (s.changePool f).pool.quarantine = (f s.pool).quarantine ∧
    (s.changePool f).pool.bound = (f s.pool).bound ∧ (s.changePool f).pool.addrCount = (f s.pool).addrCount ∧
    (s.changePool f).pool.staticBlocks = (f s.pool).staticBlocks ∧
    (s.changePool f).pool.cursors = (f s.pool).cursors ∧ (s.changePool f).dq = s.dq ∧
    (s.changePool f).port = s.port ∧ (s.changePool f).hello = s.hello ∧ (s.changePool f).sweep = s.sweep ∧
    (s.changePool f).driver = s.driver ∧ (s.changePool f).monitor = s.monitor ∧ (s.changePool f).arb = s.arb ∧
    (s.changePool f).due = s.due ∧ (s.changePool f).role = s.role ∧ (s.changePool f).now = s.now ∧
    (s.changePool f).up = s.up := by
  unfold changePool; simp [role, up]

@[simp] theorem setLaneMode_frame (s : State) (m : LaneMode) :
    (s.setLaneMode m).pending = s.pending ∧ (s.setLaneMode m).clock = s.clock ∧
    (s.setLaneMode m).resetLow = s.resetLow ∧ (s.setLaneMode m).letter = s.letter ∧
    (s.setLaneMode m).busData = s.busData ∧ (s.setLaneMode m).req.queue = s.req.queue ∧
    (s.setLaneMode m).req.completions = s.req.completions ∧ (s.setLaneMode m).req.running = s.req.running ∧
    (s.setLaneMode m).req.assembling = s.req.assembling ∧ (s.setLaneMode m).req.readPos = s.req.readPos ∧
    (s.setLaneMode m).req.enable = s.req.enable ∧ (s.setLaneMode m).req.drops = s.req.drops ∧
    (s.setLaneMode m).req.counters = s.req.counters ∧ (s.setLaneMode m).cfg = s.cfg ∧
    (s.setLaneMode m).table = s.table ∧ (s.setLaneMode m).aging = s.aging ∧
    (s.setLaneMode m).pool.quarantine = s.pool.quarantine ∧ (s.setLaneMode m).pool.bound = s.pool.bound ∧
    (s.setLaneMode m).pool.addrCount = s.pool.addrCount ∧ (s.setLaneMode m).pool.staticBlocks = s.pool.staticBlocks ∧
    (s.setLaneMode m).pool.cursors = s.pool.cursors ∧ (s.setLaneMode m).dq = s.dq ∧ (s.setLaneMode m).port = s.port ∧
    (s.setLaneMode m).hello = s.hello ∧ (s.setLaneMode m).sweep = s.sweep ∧ (s.setLaneMode m).driver = s.driver ∧
    (s.setLaneMode m).monitor = s.monitor ∧ (s.setLaneMode m).arb = s.arb ∧ (s.setLaneMode m).due = s.due ∧
    (s.setLaneMode m).role = s.role ∧ (s.setLaneMode m).now = s.now ∧ (s.setLaneMode m).up = s.up := by
  unfold setLaneMode; split <;> simp

@[simp] theorem bindPort_frame (s : State) (n : Option NatPart) :
    (s.bindPort n).pending = s.pending ∧ (s.bindPort n).clock = s.clock ∧ (s.bindPort n).resetLow = s.resetLow ∧
    (s.bindPort n).letter = s.letter ∧ (s.bindPort n).busData = s.busData ∧ (s.bindPort n).req.queue = s.req.queue ∧
    (s.bindPort n).req.completions = s.req.completions ∧ (s.bindPort n).req.running = s.req.running ∧
    (s.bindPort n).req.assembling = s.req.assembling ∧ (s.bindPort n).req.readPos = s.req.readPos ∧
    (s.bindPort n).req.enable = s.req.enable ∧ (s.bindPort n).req.drops = s.req.drops ∧
    (s.bindPort n).req.counters = s.req.counters ∧ (s.bindPort n).cfg = s.cfg ∧ (s.bindPort n).table = s.table ∧
    (s.bindPort n).aging = s.aging ∧ (s.bindPort n).pool.laneMode = s.pool.laneMode ∧
    (s.bindPort n).pool.addrCount = s.pool.addrCount ∧ (s.bindPort n).pool.staticBlocks = s.pool.staticBlocks ∧
    (s.bindPort n).dq = s.dq ∧ (s.bindPort n).port = s.port ∧ (s.bindPort n).hello = s.hello ∧
    (s.bindPort n).sweep = s.sweep ∧ (s.bindPort n).driver = s.driver ∧ (s.bindPort n).monitor = s.monitor ∧
    (s.bindPort n).arb = s.arb ∧ (s.bindPort n).due = s.due ∧ (s.bindPort n).role = s.role ∧
    (s.bindPort n).now = s.now ∧ (s.bindPort n).up = s.up := by
  unfold bindPort; (repeat' split) <;> simp

@[simp] theorem releasePort_frame (s : State) (n : Option NatPart) :
    (s.releasePort n).pending = s.pending ∧ (s.releasePort n).clock = s.clock ∧
    (s.releasePort n).resetLow = s.resetLow ∧ (s.releasePort n).letter = s.letter ∧
    (s.releasePort n).busData = s.busData ∧ (s.releasePort n).req.queue = s.req.queue ∧
    (s.releasePort n).req.completions = s.req.completions ∧ (s.releasePort n).req.running = s.req.running ∧
    (s.releasePort n).req.assembling = s.req.assembling ∧ (s.releasePort n).req.readPos = s.req.readPos ∧
    (s.releasePort n).req.enable = s.req.enable ∧ (s.releasePort n).req.drops = s.req.drops ∧
    (s.releasePort n).cfg = s.cfg ∧ (s.releasePort n).table = s.table ∧ (s.releasePort n).aging = s.aging ∧
    (s.releasePort n).pool.laneMode = s.pool.laneMode ∧ (s.releasePort n).pool.addrCount = s.pool.addrCount ∧
    (s.releasePort n).pool.staticBlocks = s.pool.staticBlocks ∧ (s.releasePort n).dq = s.dq ∧
    (s.releasePort n).port = s.port ∧ (s.releasePort n).hello = s.hello ∧ (s.releasePort n).sweep = s.sweep ∧
    (s.releasePort n).driver = s.driver ∧ (s.releasePort n).monitor = s.monitor ∧ (s.releasePort n).arb = s.arb ∧
    (s.releasePort n).due = s.due ∧ (s.releasePort n).role = s.role ∧ (s.releasePort n).now = s.now ∧
    (s.releasePort n).up = s.up := by
  unfold releasePort; dsimp only; (repeat' split) <;> simp

@[simp] theorem withEntries_frame (s : State) (es : List Entry) :
    (s.withEntries es).pending = s.pending ∧ (s.withEntries es).clock = s.clock ∧
    (s.withEntries es).resetLow = s.resetLow ∧ (s.withEntries es).letter = s.letter ∧
    (s.withEntries es).busData = s.busData ∧ (s.withEntries es).req = s.req ∧ (s.withEntries es).cfg = s.cfg ∧
    (s.withEntries es).table = s.table ∧ (s.withEntries es).aging = s.aging ∧ (s.withEntries es).pool = s.pool ∧
    (s.withEntries es).dq.catchup = s.dq.catchup ∧ (s.withEntries es).dq.catchupCursor = s.dq.catchupCursor ∧
    (s.withEntries es).port = s.port ∧ (s.withEntries es).hello = s.hello ∧ (s.withEntries es).sweep = s.sweep ∧
    (s.withEntries es).driver = s.driver ∧ (s.withEntries es).monitor = s.monitor ∧ (s.withEntries es).arb = s.arb ∧
    (s.withEntries es).due = s.due ∧ (s.withEntries es).role = s.role ∧ (s.withEntries es).now = s.now := by
  unfold withEntries; simp

@[simp] theorem removeEntry_frame (s : State) (i : Nat) :
    (s.removeEntry i).pending = s.pending ∧ (s.removeEntry i).clock = s.clock ∧
    (s.removeEntry i).resetLow = s.resetLow ∧ (s.removeEntry i).letter = s.letter ∧
    (s.removeEntry i).busData = s.busData ∧ (s.removeEntry i).req = s.req ∧ (s.removeEntry i).cfg = s.cfg ∧
    (s.removeEntry i).table = s.table ∧ (s.removeEntry i).aging = s.aging ∧ (s.removeEntry i).pool = s.pool ∧
    (s.removeEntry i).dq.catchup = s.dq.catchup ∧ (s.removeEntry i).dq.catchupCursor = s.dq.catchupCursor ∧
    (s.removeEntry i).port = s.port ∧ (s.removeEntry i).hello = s.hello ∧ (s.removeEntry i).sweep = s.sweep ∧
    (s.removeEntry i).driver = s.driver ∧ (s.removeEntry i).monitor = s.monitor ∧ (s.removeEntry i).arb = s.arb ∧
    (s.removeEntry i).due = s.due ∧ (s.removeEntry i).role = s.role ∧ (s.removeEntry i).now = s.now ∧
    (s.removeEntry i).up = s.up := by
  simp [removeEntry, role, up]

@[simp] theorem setEntryKind_frame (s : State) (i : Nat) (k : QueueKind) :
    (s.setEntryKind i k).pending = s.pending ∧ (s.setEntryKind i k).clock = s.clock ∧
    (s.setEntryKind i k).resetLow = s.resetLow ∧ (s.setEntryKind i k).letter = s.letter ∧
    (s.setEntryKind i k).busData = s.busData ∧ (s.setEntryKind i k).req = s.req ∧ (s.setEntryKind i k).cfg = s.cfg ∧
    (s.setEntryKind i k).table = s.table ∧ (s.setEntryKind i k).aging = s.aging ∧
    (s.setEntryKind i k).pool = s.pool ∧ (s.setEntryKind i k).dq.catchup = s.dq.catchup ∧
    (s.setEntryKind i k).dq.catchupCursor = s.dq.catchupCursor ∧ (s.setEntryKind i k).port = s.port ∧
    (s.setEntryKind i k).hello = s.hello ∧ (s.setEntryKind i k).sweep = s.sweep ∧
    (s.setEntryKind i k).driver = s.driver ∧ (s.setEntryKind i k).monitor = s.monitor ∧
    (s.setEntryKind i k).arb = s.arb ∧ (s.setEntryKind i k).due = s.due ∧ (s.setEntryKind i k).role = s.role ∧
    (s.setEntryKind i k).now = s.now ∧ (s.setEntryKind i k).up = s.up := by
  simp [setEntryKind, role, up]

@[simp] theorem mapMarks_frame (s : State) (i : Nat) (f : Marks → Marks) :
    (s.mapMarks i f).pending = s.pending ∧ (s.mapMarks i f).clock = s.clock ∧
    (s.mapMarks i f).resetLow = s.resetLow ∧ (s.mapMarks i f).letter = s.letter ∧
    (s.mapMarks i f).busData = s.busData ∧ (s.mapMarks i f).req = s.req ∧ (s.mapMarks i f).cfg = s.cfg ∧
    (s.mapMarks i f).aging = s.aging ∧ (s.mapMarks i f).pool = s.pool ∧ (s.mapMarks i f).dq = s.dq ∧
    (s.mapMarks i f).port = s.port ∧ (s.mapMarks i f).hello = s.hello ∧ (s.mapMarks i f).sweep = s.sweep ∧
    (s.mapMarks i f).driver = s.driver ∧ (s.mapMarks i f).monitor = s.monitor ∧ (s.mapMarks i f).arb = s.arb ∧
    (s.mapMarks i f).due = s.due ∧ (s.mapMarks i f).role = s.role ∧ (s.mapMarks i f).now = s.now ∧
    (s.mapMarks i f).up = s.up := by
  unfold mapMarks; simp

@[simp] theorem setOwed_frame (s : State) (i : Nat) (owed : Bool) :
    (s.setOwed i owed).pending = s.pending ∧ (s.setOwed i owed).clock = s.clock ∧
    (s.setOwed i owed).resetLow = s.resetLow ∧ (s.setOwed i owed).letter = s.letter ∧
    (s.setOwed i owed).busData = s.busData ∧ (s.setOwed i owed).req = s.req ∧ (s.setOwed i owed).cfg = s.cfg ∧
    (s.setOwed i owed).aging = s.aging ∧ (s.setOwed i owed).pool = s.pool ∧ (s.setOwed i owed).dq = s.dq ∧
    (s.setOwed i owed).port = s.port ∧ (s.setOwed i owed).hello = s.hello ∧ (s.setOwed i owed).sweep = s.sweep ∧
    (s.setOwed i owed).driver = s.driver ∧ (s.setOwed i owed).monitor = s.monitor ∧ (s.setOwed i owed).arb = s.arb ∧
    (s.setOwed i owed).due = s.due ∧ (s.setOwed i owed).role = s.role ∧ (s.setOwed i owed).now = s.now ∧
    (s.setOwed i owed).up = s.up := by
  unfold setOwed; simp

@[simp] theorem overflow_frame (s : State) (i : Nat) :
    (s.overflow i).pending = s.pending ∧ (s.overflow i).clock = s.clock ∧ (s.overflow i).resetLow = s.resetLow ∧
    (s.overflow i).letter = s.letter ∧ (s.overflow i).busData = s.busData ∧ (s.overflow i).req.queue = s.req.queue ∧
    (s.overflow i).req.completions = s.req.completions ∧ (s.overflow i).req.running = s.req.running ∧
    (s.overflow i).req.assembling = s.req.assembling ∧ (s.overflow i).req.readPos = s.req.readPos ∧
    (s.overflow i).req.enable = s.req.enable ∧ (s.overflow i).req.drops = s.req.drops ∧ (s.overflow i).cfg = s.cfg ∧
    (s.overflow i).aging = s.aging ∧ (s.overflow i).pool = s.pool ∧ (s.overflow i).dq = s.dq ∧
    (s.overflow i).port = s.port ∧ (s.overflow i).hello = s.hello ∧ (s.overflow i).sweep = s.sweep ∧
    (s.overflow i).driver = s.driver ∧ (s.overflow i).monitor = s.monitor ∧ (s.overflow i).arb = s.arb ∧
    (s.overflow i).due = s.due ∧ (s.overflow i).role = s.role ∧ (s.overflow i).now = s.now ∧
    (s.overflow i).up = s.up := by
  unfold overflow; split <;> simp [role, up]

@[simp] theorem appendEntry_frame (s : State) (k : QueueKind) (i : Nat) :
    (s.appendEntry k i).pending = s.pending ∧ (s.appendEntry k i).clock = s.clock ∧
    (s.appendEntry k i).resetLow = s.resetLow ∧ (s.appendEntry k i).letter = s.letter ∧
    (s.appendEntry k i).busData = s.busData ∧ (s.appendEntry k i).req = s.req ∧ (s.appendEntry k i).cfg = s.cfg ∧
    (s.appendEntry k i).aging = s.aging ∧ (s.appendEntry k i).pool = s.pool ∧
    (s.appendEntry k i).dq.catchup = s.dq.catchup ∧ (s.appendEntry k i).dq.catchupCursor = s.dq.catchupCursor ∧
    (s.appendEntry k i).port = s.port ∧ (s.appendEntry k i).hello = s.hello ∧ (s.appendEntry k i).sweep = s.sweep ∧
    (s.appendEntry k i).driver = s.driver ∧ (s.appendEntry k i).monitor = s.monitor ∧
    (s.appendEntry k i).arb = s.arb ∧ (s.appendEntry k i).due = s.due ∧ (s.appendEntry k i).role = s.role ∧
    (s.appendEntry k i).now = s.now ∧ (s.appendEntry k i).up = s.up := by
  simp [appendEntry, role, up]

@[simp] theorem offer_frame (s : State) (k : QueueKind) (i : Nat) :
    (s.offer k i).pending = s.pending ∧ (s.offer k i).clock = s.clock ∧ (s.offer k i).resetLow = s.resetLow ∧
    (s.offer k i).letter = s.letter ∧ (s.offer k i).busData = s.busData ∧ (s.offer k i).req.queue = s.req.queue ∧
    (s.offer k i).req.completions = s.req.completions ∧ (s.offer k i).req.running = s.req.running ∧
    (s.offer k i).req.assembling = s.req.assembling ∧ (s.offer k i).req.readPos = s.req.readPos ∧
    (s.offer k i).req.enable = s.req.enable ∧ (s.offer k i).req.drops = s.req.drops ∧ (s.offer k i).cfg = s.cfg ∧
    (s.offer k i).aging = s.aging ∧ (s.offer k i).pool = s.pool ∧ (s.offer k i).dq.catchup = s.dq.catchup ∧
    (s.offer k i).dq.catchupCursor = s.dq.catchupCursor ∧ (s.offer k i).port = s.port ∧
    (s.offer k i).hello = s.hello ∧ (s.offer k i).sweep = s.sweep ∧ (s.offer k i).driver = s.driver ∧
    (s.offer k i).monitor = s.monitor ∧ (s.offer k i).arb = s.arb ∧ (s.offer k i).due = s.due ∧
    (s.offer k i).role = s.role ∧ (s.offer k i).now = s.now ∧ (s.offer k i).up = s.up := by
  unfold offer; (repeat' split) <;> simp

@[simp] theorem endSession_frame (s : State) (i : Nat) (r : Record) (byWalker : Bool) :
    (s.endSession i r byWalker).pending = s.pending ∧ (s.endSession i r byWalker).clock = s.clock ∧
    (s.endSession i r byWalker).resetLow = s.resetLow ∧ (s.endSession i r byWalker).letter = s.letter ∧
    (s.endSession i r byWalker).busData = s.busData ∧ (s.endSession i r byWalker).req.queue = s.req.queue ∧
    (s.endSession i r byWalker).req.completions = s.req.completions ∧
    (s.endSession i r byWalker).req.running = s.req.running ∧
    (s.endSession i r byWalker).req.assembling = s.req.assembling ∧
    (s.endSession i r byWalker).req.readPos = s.req.readPos ∧ (s.endSession i r byWalker).req.enable = s.req.enable ∧
    (s.endSession i r byWalker).req.drops = s.req.drops ∧ (s.endSession i r byWalker).cfg = s.cfg ∧
    (s.endSession i r byWalker).aging = s.aging ∧ (s.endSession i r byWalker).pool.laneMode = s.pool.laneMode ∧
    (s.endSession i r byWalker).pool.addrCount = s.pool.addrCount ∧
    (s.endSession i r byWalker).pool.staticBlocks = s.pool.staticBlocks ∧
    (s.endSession i r byWalker).dq.catchup = s.dq.catchup ∧
    (s.endSession i r byWalker).dq.catchupCursor = s.dq.catchupCursor ∧ (s.endSession i r byWalker).port = s.port ∧
    (s.endSession i r byWalker).hello = s.hello ∧ (s.endSession i r byWalker).sweep = s.sweep ∧
    (s.endSession i r byWalker).driver = s.driver ∧ (s.endSession i r byWalker).monitor = s.monitor ∧
    (s.endSession i r byWalker).arb = s.arb ∧ (s.endSession i r byWalker).due = s.due ∧
    (s.endSession i r byWalker).role = s.role ∧ (s.endSession i r byWalker).now = s.now ∧
    (s.endSession i r byWalker).up = s.up := by
  unfold endSession; dsimp only; (repeat' split) <;> simp [role, up]

@[simp] theorem owedRefresh_frame (s : State) (i : Nat) (r : Record) :
    (s.owedRefresh i r).pending = s.pending ∧ (s.owedRefresh i r).clock = s.clock ∧
    (s.owedRefresh i r).resetLow = s.resetLow ∧ (s.owedRefresh i r).letter = s.letter ∧
    (s.owedRefresh i r).busData = s.busData ∧ (s.owedRefresh i r).req.queue = s.req.queue ∧
    (s.owedRefresh i r).req.completions = s.req.completions ∧ (s.owedRefresh i r).req.running = s.req.running ∧
    (s.owedRefresh i r).req.assembling = s.req.assembling ∧ (s.owedRefresh i r).req.readPos = s.req.readPos ∧
    (s.owedRefresh i r).req.enable = s.req.enable ∧ (s.owedRefresh i r).req.drops = s.req.drops ∧
    (s.owedRefresh i r).cfg = s.cfg ∧ (s.owedRefresh i r).aging = s.aging ∧ (s.owedRefresh i r).pool = s.pool ∧
    (s.owedRefresh i r).dq.catchup = s.dq.catchup ∧ (s.owedRefresh i r).dq.catchupCursor = s.dq.catchupCursor ∧
    (s.owedRefresh i r).port = s.port ∧ (s.owedRefresh i r).hello = s.hello ∧ (s.owedRefresh i r).sweep = s.sweep ∧
    (s.owedRefresh i r).driver = s.driver ∧ (s.owedRefresh i r).monitor = s.monitor ∧
    (s.owedRefresh i r).arb = s.arb ∧ (s.owedRefresh i r).due = s.due ∧ (s.owedRefresh i r).role = s.role ∧
    (s.owedRefresh i r).now = s.now ∧ (s.owedRefresh i r).up = s.up := by
  unfold owedRefresh; (repeat' split) <;> simp

@[simp] theorem clearQueue_frame (s : State) :
    (s.clearQueue).pending = s.pending ∧ (s.clearQueue).clock = s.clock ∧ (s.clearQueue).resetLow = s.resetLow ∧
    (s.clearQueue).letter = s.letter ∧ (s.clearQueue).busData = s.busData ∧ (s.clearQueue).req = s.req ∧
    (s.clearQueue).cfg = s.cfg ∧ (s.clearQueue).aging = s.aging ∧ (s.clearQueue).pool = s.pool ∧
    (s.clearQueue).dq.catchupCursor = s.dq.catchupCursor ∧ (s.clearQueue).port = s.port ∧
    (s.clearQueue).hello = s.hello ∧ (s.clearQueue).sweep = s.sweep ∧ (s.clearQueue).driver = s.driver ∧
    (s.clearQueue).monitor = s.monitor ∧ (s.clearQueue).arb = s.arb ∧ (s.clearQueue).due = s.due ∧
    (s.clearQueue).role = s.role ∧ (s.clearQueue).now = s.now := by
  unfold clearQueue; simp

@[simp] theorem clearQueueStandDown_frame (s : State) :
    (s.clearQueueStandDown).pending = s.pending ∧ (s.clearQueueStandDown).clock = s.clock ∧
    (s.clearQueueStandDown).resetLow = s.resetLow ∧ (s.clearQueueStandDown).letter = s.letter ∧
    (s.clearQueueStandDown).busData = s.busData ∧ (s.clearQueueStandDown).req = s.req ∧
    (s.clearQueueStandDown).cfg = s.cfg ∧ (s.clearQueueStandDown).aging = s.aging ∧
    (s.clearQueueStandDown).pool = s.pool ∧ (s.clearQueueStandDown).dq.catchupCursor = s.dq.catchupCursor ∧
    (s.clearQueueStandDown).port = s.port ∧ (s.clearQueueStandDown).hello = s.hello ∧
    (s.clearQueueStandDown).sweep = s.sweep ∧ (s.clearQueueStandDown).driver = s.driver ∧
    (s.clearQueueStandDown).monitor = s.monitor ∧ (s.clearQueueStandDown).arb = s.arb ∧
    (s.clearQueueStandDown).due = s.due ∧ (s.clearQueueStandDown).role = s.role ∧
    (s.clearQueueStandDown).now = s.now := by
  unfold clearQueueStandDown; simp

@[simp] theorem supersede_frame (s : State) (t : Nat) :
    (s.supersede t).pending = s.pending ∧ (s.supersede t).clock = s.clock ∧ (s.supersede t).resetLow = s.resetLow ∧
    (s.supersede t).letter = s.letter ∧ (s.supersede t).busData = s.busData ∧
    (s.supersede t).req.queue = s.req.queue ∧ (s.supersede t).req.completions = s.req.completions ∧
    (s.supersede t).req.running = s.req.running ∧ (s.supersede t).req.assembling = s.req.assembling ∧
    (s.supersede t).req.readPos = s.req.readPos ∧ (s.supersede t).req.enable = s.req.enable ∧
    (s.supersede t).req.drops = s.req.drops ∧ (s.supersede t).cfg = s.cfg ∧ (s.supersede t).aging = s.aging ∧
    (s.supersede t).pool.laneMode = s.pool.laneMode ∧ (s.supersede t).pool.addrCount = s.pool.addrCount ∧
    (s.supersede t).pool.staticBlocks = s.pool.staticBlocks ∧ (s.supersede t).dq.catchup = s.dq.catchup ∧
    (s.supersede t).dq.catchupCursor = s.dq.catchupCursor ∧ (s.supersede t).port = s.port ∧
    (s.supersede t).hello = s.hello ∧ (s.supersede t).sweep = s.sweep ∧ (s.supersede t).driver = s.driver ∧
    (s.supersede t).monitor = s.monitor ∧ (s.supersede t).arb = s.arb ∧ (s.supersede t).due = s.due ∧
    (s.supersede t).role = s.role ∧ (s.supersede t).now = s.now ∧ (s.supersede t).up = s.up := by
  unfold supersede; split <;> simp [role, up]

@[simp] theorem supersedeByKey_frame (s : State) (i : Nat) (k : Key) :
    (s.supersedeByKey i k).pending = s.pending ∧ (s.supersedeByKey i k).clock = s.clock ∧
    (s.supersedeByKey i k).resetLow = s.resetLow ∧ (s.supersedeByKey i k).letter = s.letter ∧
    (s.supersedeByKey i k).busData = s.busData ∧ (s.supersedeByKey i k).req.queue = s.req.queue ∧
    (s.supersedeByKey i k).req.completions = s.req.completions ∧ (s.supersedeByKey i k).req.running = s.req.running ∧
    (s.supersedeByKey i k).req.assembling = s.req.assembling ∧ (s.supersedeByKey i k).req.readPos = s.req.readPos ∧
    (s.supersedeByKey i k).req.enable = s.req.enable ∧ (s.supersedeByKey i k).req.drops = s.req.drops ∧
    (s.supersedeByKey i k).cfg = s.cfg ∧ (s.supersedeByKey i k).aging = s.aging ∧
    (s.supersedeByKey i k).pool.laneMode = s.pool.laneMode ∧
    (s.supersedeByKey i k).pool.addrCount = s.pool.addrCount ∧
    (s.supersedeByKey i k).pool.staticBlocks = s.pool.staticBlocks ∧
    (s.supersedeByKey i k).dq.catchup = s.dq.catchup ∧ (s.supersedeByKey i k).dq.catchupCursor = s.dq.catchupCursor ∧
    (s.supersedeByKey i k).port = s.port ∧ (s.supersedeByKey i k).hello = s.hello ∧
    (s.supersedeByKey i k).sweep = s.sweep ∧ (s.supersedeByKey i k).driver = s.driver ∧
    (s.supersedeByKey i k).monitor = s.monitor ∧ (s.supersedeByKey i k).arb = s.arb ∧
    (s.supersedeByKey i k).due = s.due ∧ (s.supersedeByKey i k).role = s.role ∧ (s.supersedeByKey i k).now = s.now ∧
    (s.supersedeByKey i k).up = s.up := by
  unfold supersedeByKey; split <;> simp

@[simp] theorem supersedeByPort_frame (s : State) (i : Nat) (n : Option NatPart) :
    (s.supersedeByPort i n).pending = s.pending ∧ (s.supersedeByPort i n).clock = s.clock ∧
    (s.supersedeByPort i n).resetLow = s.resetLow ∧ (s.supersedeByPort i n).letter = s.letter ∧
    (s.supersedeByPort i n).busData = s.busData ∧ (s.supersedeByPort i n).req.queue = s.req.queue ∧
    (s.supersedeByPort i n).req.completions = s.req.completions ∧
    (s.supersedeByPort i n).req.running = s.req.running ∧ (s.supersedeByPort i n).req.assembling = s.req.assembling ∧
    (s.supersedeByPort i n).req.readPos = s.req.readPos ∧ (s.supersedeByPort i n).req.enable = s.req.enable ∧
    (s.supersedeByPort i n).req.drops = s.req.drops ∧ (s.supersedeByPort i n).cfg = s.cfg ∧
    (s.supersedeByPort i n).aging = s.aging ∧ (s.supersedeByPort i n).pool.laneMode = s.pool.laneMode ∧
    (s.supersedeByPort i n).pool.addrCount = s.pool.addrCount ∧
    (s.supersedeByPort i n).pool.staticBlocks = s.pool.staticBlocks ∧
    (s.supersedeByPort i n).dq.catchup = s.dq.catchup ∧
    (s.supersedeByPort i n).dq.catchupCursor = s.dq.catchupCursor ∧ (s.supersedeByPort i n).port = s.port ∧
    (s.supersedeByPort i n).hello = s.hello ∧ (s.supersedeByPort i n).sweep = s.sweep ∧
    (s.supersedeByPort i n).driver = s.driver ∧ (s.supersedeByPort i n).monitor = s.monitor ∧
    (s.supersedeByPort i n).arb = s.arb ∧ (s.supersedeByPort i n).due = s.due ∧
    (s.supersedeByPort i n).role = s.role ∧ (s.supersedeByPort i n).now = s.now ∧
    (s.supersedeByPort i n).up = s.up := by
  unfold supersedeByPort; (repeat' split) <;> simp

@[simp] theorem releaseOldPort_frame (s : State) (i : Nat) (n : Option NatPart) :
    (s.releaseOldPort i n).pending = s.pending ∧ (s.releaseOldPort i n).clock = s.clock ∧
    (s.releaseOldPort i n).resetLow = s.resetLow ∧ (s.releaseOldPort i n).letter = s.letter ∧
    (s.releaseOldPort i n).busData = s.busData ∧ (s.releaseOldPort i n).req.queue = s.req.queue ∧
    (s.releaseOldPort i n).req.completions = s.req.completions ∧ (s.releaseOldPort i n).req.running = s.req.running ∧
    (s.releaseOldPort i n).req.assembling = s.req.assembling ∧ (s.releaseOldPort i n).req.readPos = s.req.readPos ∧
    (s.releaseOldPort i n).req.enable = s.req.enable ∧ (s.releaseOldPort i n).req.drops = s.req.drops ∧
    (s.releaseOldPort i n).cfg = s.cfg ∧ (s.releaseOldPort i n).table = s.table ∧
    (s.releaseOldPort i n).aging = s.aging ∧ (s.releaseOldPort i n).pool.laneMode = s.pool.laneMode ∧
    (s.releaseOldPort i n).pool.addrCount = s.pool.addrCount ∧
    (s.releaseOldPort i n).pool.staticBlocks = s.pool.staticBlocks ∧ (s.releaseOldPort i n).dq = s.dq ∧
    (s.releaseOldPort i n).port = s.port ∧ (s.releaseOldPort i n).hello = s.hello ∧
    (s.releaseOldPort i n).sweep = s.sweep ∧ (s.releaseOldPort i n).driver = s.driver ∧
    (s.releaseOldPort i n).monitor = s.monitor ∧ (s.releaseOldPort i n).arb = s.arb ∧
    (s.releaseOldPort i n).due = s.due ∧ (s.releaseOldPort i n).role = s.role ∧ (s.releaseOldPort i n).now = s.now ∧
    (s.releaseOldPort i n).up = s.up := by
  unfold releaseOldPort; (repeat' split) <;> simp

@[simp] theorem writeDelta_frame (s : State) (i : Nat) (d : FullDelta) :
    (s.writeDelta i d).pending = s.pending ∧ (s.writeDelta i d).clock = s.clock ∧
    (s.writeDelta i d).resetLow = s.resetLow ∧ (s.writeDelta i d).letter = s.letter ∧
    (s.writeDelta i d).busData = s.busData ∧ (s.writeDelta i d).req.queue = s.req.queue ∧
    (s.writeDelta i d).req.completions = s.req.completions ∧ (s.writeDelta i d).req.running = s.req.running ∧
    (s.writeDelta i d).req.assembling = s.req.assembling ∧ (s.writeDelta i d).req.readPos = s.req.readPos ∧
    (s.writeDelta i d).req.enable = s.req.enable ∧ (s.writeDelta i d).req.drops = s.req.drops ∧
    (s.writeDelta i d).cfg = s.cfg ∧ (s.writeDelta i d).aging = s.aging ∧
    (s.writeDelta i d).pool.laneMode = s.pool.laneMode ∧ (s.writeDelta i d).pool.addrCount = s.pool.addrCount ∧
    (s.writeDelta i d).pool.staticBlocks = s.pool.staticBlocks ∧ (s.writeDelta i d).dq.catchup = s.dq.catchup ∧
    (s.writeDelta i d).dq.catchupCursor = s.dq.catchupCursor ∧ (s.writeDelta i d).port = s.port ∧
    (s.writeDelta i d).hello = s.hello ∧ (s.writeDelta i d).sweep = s.sweep ∧ (s.writeDelta i d).driver = s.driver ∧
    (s.writeDelta i d).monitor = s.monitor ∧ (s.writeDelta i d).arb = s.arb ∧ (s.writeDelta i d).due = s.due ∧
    (s.writeDelta i d).role = s.role ∧ (s.writeDelta i d).now = s.now ∧ (s.writeDelta i d).up = s.up := by
  simp [writeDelta, role, up]

@[simp] theorem applyFull_frame (s : State) (d : FullDelta) :
    (s.applyFull d).pending = s.pending ∧ (s.applyFull d).clock = s.clock ∧ (s.applyFull d).resetLow = s.resetLow ∧
    (s.applyFull d).letter = s.letter ∧ (s.applyFull d).busData = s.busData ∧
    (s.applyFull d).req.queue = s.req.queue ∧ (s.applyFull d).req.completions = s.req.completions ∧
    (s.applyFull d).req.running = s.req.running ∧ (s.applyFull d).req.assembling = s.req.assembling ∧
    (s.applyFull d).req.readPos = s.req.readPos ∧ (s.applyFull d).req.enable = s.req.enable ∧
    (s.applyFull d).req.drops = s.req.drops ∧ (s.applyFull d).cfg = s.cfg ∧ (s.applyFull d).aging = s.aging ∧
    (s.applyFull d).pool.laneMode = s.pool.laneMode ∧ (s.applyFull d).pool.addrCount = s.pool.addrCount ∧
    (s.applyFull d).pool.staticBlocks = s.pool.staticBlocks ∧ (s.applyFull d).dq.catchup = s.dq.catchup ∧
    (s.applyFull d).dq.catchupCursor = s.dq.catchupCursor ∧ (s.applyFull d).port = s.port ∧
    (s.applyFull d).hello = s.hello ∧ (s.applyFull d).sweep = s.sweep ∧ (s.applyFull d).driver = s.driver ∧
    (s.applyFull d).monitor = s.monitor ∧ (s.applyFull d).arb = s.arb ∧ (s.applyFull d).due = s.due ∧
    (s.applyFull d).role = s.role ∧ (s.applyFull d).now = s.now ∧ (s.applyFull d).up = s.up := by
  unfold applyFull; split <;> simp

@[simp] theorem applyDelete_frame (s : State) (slot : BitVec 16) (v : Word) :
    (s.applyDelete slot v).pending = s.pending ∧ (s.applyDelete slot v).clock = s.clock ∧
    (s.applyDelete slot v).resetLow = s.resetLow ∧ (s.applyDelete slot v).letter = s.letter ∧
    (s.applyDelete slot v).busData = s.busData ∧ (s.applyDelete slot v).req.queue = s.req.queue ∧
    (s.applyDelete slot v).req.completions = s.req.completions ∧ (s.applyDelete slot v).req.running = s.req.running ∧
    (s.applyDelete slot v).req.assembling = s.req.assembling ∧ (s.applyDelete slot v).req.readPos = s.req.readPos ∧
    (s.applyDelete slot v).req.enable = s.req.enable ∧ (s.applyDelete slot v).req.drops = s.req.drops ∧
    (s.applyDelete slot v).cfg = s.cfg ∧ (s.applyDelete slot v).aging = s.aging ∧
    (s.applyDelete slot v).pool.laneMode = s.pool.laneMode ∧
    (s.applyDelete slot v).pool.addrCount = s.pool.addrCount ∧
    (s.applyDelete slot v).pool.staticBlocks = s.pool.staticBlocks ∧
    (s.applyDelete slot v).dq.catchup = s.dq.catchup ∧ (s.applyDelete slot v).dq.catchupCursor = s.dq.catchupCursor ∧
    (s.applyDelete slot v).port = s.port ∧ (s.applyDelete slot v).hello = s.hello ∧
    (s.applyDelete slot v).sweep = s.sweep ∧ (s.applyDelete slot v).driver = s.driver ∧
    (s.applyDelete slot v).monitor = s.monitor ∧ (s.applyDelete slot v).arb = s.arb ∧
    (s.applyDelete slot v).due = s.due ∧ (s.applyDelete slot v).role = s.role ∧ (s.applyDelete slot v).now = s.now ∧
    (s.applyDelete slot v).up = s.up := by
  unfold applyDelete; dsimp only; (repeat' split) <;> simp [role, up]

@[simp] theorem freeWholeTable_frame (s : State) :
    (s.freeWholeTable).pending = s.pending ∧ (s.freeWholeTable).clock = s.clock ∧
    (s.freeWholeTable).resetLow = s.resetLow ∧ (s.freeWholeTable).letter = s.letter ∧
    (s.freeWholeTable).busData = s.busData ∧ (s.freeWholeTable).req.queue = s.req.queue ∧
    (s.freeWholeTable).req.completions = s.req.completions ∧ (s.freeWholeTable).req.running = s.req.running ∧
    (s.freeWholeTable).req.assembling = s.req.assembling ∧ (s.freeWholeTable).req.readPos = s.req.readPos ∧
    (s.freeWholeTable).req.enable = s.req.enable ∧ (s.freeWholeTable).req.drops = s.req.drops ∧
    (s.freeWholeTable).req.counters = s.req.counters ∧ (s.freeWholeTable).cfg = s.cfg ∧
    (s.freeWholeTable).aging = s.aging ∧ (s.freeWholeTable).pool.laneMode = s.pool.laneMode ∧
    (s.freeWholeTable).pool.addrCount = s.pool.addrCount ∧
    (s.freeWholeTable).pool.staticBlocks = s.pool.staticBlocks ∧ (s.freeWholeTable).dq.catchup = s.dq.catchup ∧
    (s.freeWholeTable).dq.catchupCursor = s.dq.catchupCursor ∧ (s.freeWholeTable).port = s.port ∧
    (s.freeWholeTable).hello = s.hello ∧ (s.freeWholeTable).sweep = s.sweep ∧ (s.freeWholeTable).driver = s.driver ∧
    (s.freeWholeTable).monitor = s.monitor ∧ (s.freeWholeTable).arb = s.arb ∧ (s.freeWholeTable).due = s.due ∧
    (s.freeWholeTable).role = s.role ∧ (s.freeWholeTable).now = s.now ∧ (s.freeWholeTable).up = s.up := by
  simp [freeWholeTable, role, up]

end State

end Sys2Proof.Machine
end

