-- ==== Sys2Proof/Laws/FramePair.lean ====
section
/-! SUPPORT. What each operation of the transmitter, the Role Arbiter, the relation, the frame builder and the receiver leaves as it
was: one lemma per operation, so that no later proof unfolds one to carry a field across it. -/

namespace Sys2Proof.Machine

namespace State

@[simp] theorem withTx_frame (s : State) (x : Transmitter) :
    (s.withTx x).pending = s.pending ∧ (s.withTx x).clock = s.clock ∧ (s.withTx x).resetLow = s.resetLow ∧
    (s.withTx x).letter = s.letter ∧ (s.withTx x).busData = s.busData ∧ (s.withTx x).req = s.req ∧
    (s.withTx x).cfg = s.cfg ∧ (s.withTx x).table = s.table ∧ (s.withTx x).aging = s.aging ∧
    (s.withTx x).pool = s.pool ∧ (s.withTx x).dq = s.dq ∧ (s.withTx x).port.link = s.port.link ∧
    (s.withTx x).port.inFlight = s.port.inFlight ∧ (s.withTx x).port.carrier = s.port.carrier ∧
    (s.withTx x).port.nextSeq = s.port.nextSeq ∧ (s.withTx x).port.expected = s.port.expected ∧
    (s.withTx x).port.heartbeat = s.port.heartbeat ∧ (s.withTx x).port.silence = s.port.silence ∧
    (s.withTx x).port.lastEnd = s.port.lastEnd ∧
    (s.withTx x).port.applying = s.port.applying ∧ (s.withTx x).port.sweepBegin = s.port.sweepBegin ∧
    (s.withTx x).port.sweepEnd = s.port.sweepEnd ∧ (s.withTx x).port.yieldMarker = s.port.yieldMarker ∧
    (s.withTx x).hello = s.hello ∧ (s.withTx x).sweep = s.sweep ∧ (s.withTx x).driver = s.driver ∧
    (s.withTx x).monitor = s.monitor ∧ (s.withTx x).arb = s.arb ∧ (s.withTx x).due = s.due ∧
    (s.withTx x).role = s.role ∧ (s.withTx x).now = s.now := by
  unfold withTx; simp

@[simp] theorem kick_frame (s : State) :
    (s.kick).pending = s.pending ∧ (s.kick).clock = s.clock ∧ (s.kick).resetLow = s.resetLow ∧
    (s.kick).letter = s.letter ∧ (s.kick).busData = s.busData ∧ (s.kick).req = s.req ∧ (s.kick).cfg = s.cfg ∧
    (s.kick).table = s.table ∧ (s.kick).aging = s.aging ∧ (s.kick).pool = s.pool ∧ (s.kick).dq = s.dq ∧
    (s.kick).port.link = s.port.link ∧ (s.kick).port.inFlight = s.port.inFlight ∧
    (s.kick).port.carrier = s.port.carrier ∧ (s.kick).port.nextSeq = s.port.nextSeq ∧
    (s.kick).port.expected = s.port.expected ∧ (s.kick).port.heartbeat = s.port.heartbeat ∧
    (s.kick).port.silence = s.port.silence ∧ (s.kick).port.lastEnd = s.port.lastEnd ∧
    (s.kick).port.applying = s.port.applying ∧
    (s.kick).port.sweepBegin = s.port.sweepBegin ∧ (s.kick).port.sweepEnd = s.port.sweepEnd ∧
    (s.kick).port.yieldMarker = s.port.yieldMarker ∧ (s.kick).hello = s.hello ∧ (s.kick).sweep = s.sweep ∧
    (s.kick).driver = s.driver ∧ (s.kick).monitor = s.monitor ∧ (s.kick).arb = s.arb ∧ (s.kick).due = s.due ∧
    (s.kick).role = s.role ∧ (s.kick).now = s.now ∧ (s.kick).up = s.up := by
  unfold kick; split <;> simp [role, up]

@[simp] theorem putBeat_frame (s : State) :
    (s.putBeat).pending = s.pending ∧ (s.putBeat).clock = s.clock ∧ (s.putBeat).resetLow = s.resetLow ∧
    (s.putBeat).letter = s.letter ∧ (s.putBeat).busData = s.busData ∧ (s.putBeat).req = s.req ∧
    (s.putBeat).cfg = s.cfg ∧ (s.putBeat).table = s.table ∧ (s.putBeat).aging = s.aging ∧ (s.putBeat).pool = s.pool ∧
    (s.putBeat).dq = s.dq ∧ (s.putBeat).port.link = s.port.link ∧ (s.putBeat).port.inFlight = s.port.inFlight ∧
    (s.putBeat).port.carrier = s.port.carrier ∧ (s.putBeat).port.nextSeq = s.port.nextSeq ∧
    (s.putBeat).port.expected = s.port.expected ∧ (s.putBeat).port.silence = s.port.silence ∧
    (s.putBeat).port.lastEnd = s.port.lastEnd ∧
    (s.putBeat).port.applying = s.port.applying ∧ (s.putBeat).port.sweepBegin = s.port.sweepBegin ∧
    (s.putBeat).port.sweepEnd = s.port.sweepEnd ∧ (s.putBeat).port.yieldMarker = s.port.yieldMarker ∧
    (s.putBeat).port.tx.sending = s.port.tx.sending ∧ (s.putBeat).port.tx.hello = s.port.tx.hello ∧
    (s.putBeat).port.tx.acks = s.port.tx.acks ∧ (s.putBeat).port.tx.resend = s.port.tx.resend ∧
    (s.putBeat).port.tx.fresh = s.port.tx.fresh ∧ (s.putBeat).port.tx.returned = s.port.tx.returned ∧
    (s.putBeat).port.tx.outbound = s.port.tx.outbound ∧ (s.putBeat).hello = s.hello ∧ (s.putBeat).sweep = s.sweep ∧
    (s.putBeat).driver = s.driver ∧ (s.putBeat).monitor = s.monitor ∧ (s.putBeat).arb = s.arb ∧
    (s.putBeat).due = s.due ∧ (s.putBeat).role = s.role ∧ (s.putBeat).now = s.now := by
  unfold putBeat; simp

@[simp] theorem sendPage_frame (s : State) (more : Bool) :
    (s.sendPage more).pending = s.pending ∧ (s.sendPage more).clock = s.clock ∧
    (s.sendPage more).resetLow = s.resetLow ∧ (s.sendPage more).letter = s.letter ∧
    (s.sendPage more).busData = s.busData ∧ (s.sendPage more).req = s.req ∧ (s.sendPage more).cfg = s.cfg ∧
    (s.sendPage more).table = s.table ∧ (s.sendPage more).aging = s.aging ∧ (s.sendPage more).pool = s.pool ∧
    (s.sendPage more).dq = s.dq ∧ (s.sendPage more).port.link = s.port.link ∧
    (s.sendPage more).port.inFlight = s.port.inFlight ∧ (s.sendPage more).port.carrier = s.port.carrier ∧
    (s.sendPage more).port.nextSeq = s.port.nextSeq ∧ (s.sendPage more).port.expected = s.port.expected ∧
    (s.sendPage more).port.heartbeat = s.port.heartbeat ∧ (s.sendPage more).port.silence = s.port.silence ∧
    (s.sendPage more).port.lastEnd = s.port.lastEnd ∧
    (s.sendPage more).port.applying = s.port.applying ∧ (s.sendPage more).port.sweepBegin = s.port.sweepBegin ∧
    (s.sendPage more).port.sweepEnd = s.port.sweepEnd ∧ (s.sendPage more).port.yieldMarker = s.port.yieldMarker ∧
    (s.sendPage more).hello.ownPage = s.hello.ownPage ∧ (s.sendPage more).hello.toggle = s.hello.toggle ∧
    (s.sendPage more).hello.taken = s.hello.taken ∧ (s.sendPage more).hello.ackToggle = s.hello.ackToggle ∧
    (s.sendPage more).hello.exchange = s.hello.exchange ∧ (s.sendPage more).hello.ackExchange = s.hello.ackExchange ∧
    (s.sendPage more).hello.comply = s.hello.comply ∧ (s.sendPage more).hello.peerIdentity = s.hello.peerIdentity ∧
    (s.sendPage more).hello.helloSince = s.hello.helloSince ∧ (s.sendPage more).hello.refusal = s.hello.refusal ∧
    (s.sendPage more).sweep = s.sweep ∧ (s.sendPage more).driver = s.driver ∧ (s.sendPage more).monitor = s.monitor ∧
    (s.sendPage more).arb = s.arb ∧ (s.sendPage more).due = s.due ∧ (s.sendPage more).role = s.role ∧
    (s.sendPage more).now = s.now ∧ (s.sendPage more).up = s.up := by
  simp [sendPage, role, up]

@[simp] theorem helloBegin_frame (s : State) :
    (s.helloBegin).pending = s.pending ∧ (s.helloBegin).clock = s.clock ∧ (s.helloBegin).resetLow = s.resetLow ∧
    (s.helloBegin).letter = s.letter ∧ (s.helloBegin).busData = s.busData ∧ (s.helloBegin).req = s.req ∧
    (s.helloBegin).cfg = s.cfg ∧ (s.helloBegin).table = s.table ∧ (s.helloBegin).aging = s.aging ∧
    (s.helloBegin).pool = s.pool ∧ (s.helloBegin).dq = s.dq ∧ (s.helloBegin).port.link = s.port.link ∧
    (s.helloBegin).port.inFlight = s.port.inFlight ∧ (s.helloBegin).port.carrier = s.port.carrier ∧
    (s.helloBegin).port.nextSeq = s.port.nextSeq ∧ (s.helloBegin).port.expected = s.port.expected ∧
    (s.helloBegin).port.heartbeat = s.port.heartbeat ∧ (s.helloBegin).port.silence = s.port.silence ∧
    (s.helloBegin).port.lastEnd = s.port.lastEnd ∧
    (s.helloBegin).port.applying = s.port.applying ∧ (s.helloBegin).port.sweepBegin = s.port.sweepBegin ∧
    (s.helloBegin).port.sweepEnd = s.port.sweepEnd ∧ (s.helloBegin).port.yieldMarker = s.port.yieldMarker ∧
    (s.helloBegin).hello.ackExchange = s.hello.ackExchange ∧ (s.helloBegin).hello.refusal = s.hello.refusal ∧
    (s.helloBegin).sweep = s.sweep ∧ (s.helloBegin).driver = s.driver ∧ (s.helloBegin).monitor = s.monitor ∧
    (s.helloBegin).arb = s.arb ∧ (s.helloBegin).due = s.due ∧ (s.helloBegin).role = s.role ∧
    (s.helloBegin).now = s.now ∧ (s.helloBegin).up = s.up := by
  unfold helloBegin; simp

@[simp] theorem helloRestart_frame (s : State) :
    (s.helloRestart).pending = s.pending ∧ (s.helloRestart).clock = s.clock ∧
    (s.helloRestart).resetLow = s.resetLow ∧ (s.helloRestart).letter = s.letter ∧
    (s.helloRestart).busData = s.busData ∧ (s.helloRestart).req = s.req ∧ (s.helloRestart).cfg = s.cfg ∧
    (s.helloRestart).table = s.table ∧ (s.helloRestart).aging = s.aging ∧ (s.helloRestart).pool = s.pool ∧
    (s.helloRestart).dq = s.dq ∧ (s.helloRestart).port.link = s.port.link ∧
    (s.helloRestart).port.inFlight = s.port.inFlight ∧ (s.helloRestart).port.carrier = s.port.carrier ∧
    (s.helloRestart).port.nextSeq = s.port.nextSeq ∧ (s.helloRestart).port.expected = s.port.expected ∧
    (s.helloRestart).port.heartbeat = s.port.heartbeat ∧ (s.helloRestart).port.silence = s.port.silence ∧
    (s.helloRestart).port.lastEnd = s.port.lastEnd ∧
    (s.helloRestart).port.applying = s.port.applying ∧ (s.helloRestart).port.sweepBegin = s.port.sweepBegin ∧
    (s.helloRestart).port.sweepEnd = s.port.sweepEnd ∧ (s.helloRestart).port.yieldMarker = s.port.yieldMarker ∧
    (s.helloRestart).hello.ackExchange = s.hello.ackExchange ∧ (s.helloRestart).hello.refusal = s.hello.refusal ∧
    (s.helloRestart).sweep = s.sweep ∧ (s.helloRestart).driver = s.driver ∧ (s.helloRestart).monitor = s.monitor ∧
    (s.helloRestart).arb = s.arb ∧ (s.helloRestart).due = s.due ∧ (s.helloRestart).role = s.role ∧
    (s.helloRestart).now = s.now ∧ (s.helloRestart).up = s.up := by
  unfold helloRestart; split <;> simp

@[simp] theorem setRole_frame (s : State) (r : Role) :
    (s.setRole r).pending = s.pending ∧ (s.setRole r).clock = s.clock ∧ (s.setRole r).resetLow = s.resetLow ∧
    (s.setRole r).letter = s.letter ∧ (s.setRole r).busData = s.busData ∧ (s.setRole r).req.queue = s.req.queue ∧
    (s.setRole r).req.completions = s.req.completions ∧ (s.setRole r).req.running = s.req.running ∧
    (s.setRole r).req.assembling = s.req.assembling ∧ (s.setRole r).req.readPos = s.req.readPos ∧
    (s.setRole r).req.enable = s.req.enable ∧ (s.setRole r).req.drops = s.req.drops ∧
    (s.setRole r).req.counters = s.req.counters ∧ (s.setRole r).cfg = s.cfg ∧ (s.setRole r).table = s.table ∧
    (s.setRole r).aging = s.aging ∧ (s.setRole r).pool = s.pool ∧ (s.setRole r).dq = s.dq ∧
    (s.setRole r).port.link = s.port.link ∧ (s.setRole r).port.inFlight = s.port.inFlight ∧
    (s.setRole r).port.carrier = s.port.carrier ∧ (s.setRole r).port.nextSeq = s.port.nextSeq ∧
    (s.setRole r).port.expected = s.port.expected ∧ (s.setRole r).port.silence = s.port.silence ∧
    (s.setRole r).port.lastEnd = s.port.lastEnd ∧
    (s.setRole r).port.applying = s.port.applying ∧ (s.setRole r).port.sweepBegin = s.port.sweepBegin ∧
    (s.setRole r).port.sweepEnd = s.port.sweepEnd ∧ (s.setRole r).hello.ackExchange = s.hello.ackExchange ∧
    (s.setRole r).hello.refusal = s.hello.refusal ∧ (s.setRole r).sweep = s.sweep ∧
    (s.setRole r).monitor = s.monitor ∧ (s.setRole r).arb.epoch = s.arb.epoch ∧
    (s.setRole r).arb.health = s.arb.health ∧ (s.setRole r).arb.hold = s.arb.hold ∧
    (s.setRole r).arb.takeoverTick = s.arb.takeoverTick ∧ (s.setRole r).arb.grace = s.arb.grace ∧
    (s.setRole r).arb.listen = s.arb.listen ∧ (s.setRole r).arb.healthHold = s.arb.healthHold ∧
    (s.setRole r).arb.yieldTaken = s.arb.yieldTaken ∧ (s.setRole r).arb.peer = s.arb.peer ∧
    (s.setRole r).due = s.due ∧ (s.setRole r).now = s.now ∧ (s.setRole r).up = s.up := by
  unfold setRole; dsimp only; (repeat' split) <;> simp [up]

@[simp] theorem takeoverEntry_frame (s : State) (byMarker : Bool) :
    (s.takeoverEntry byMarker).pending = s.pending ∧ (s.takeoverEntry byMarker).clock = s.clock ∧
    (s.takeoverEntry byMarker).resetLow = s.resetLow ∧ (s.takeoverEntry byMarker).letter = s.letter ∧
    (s.takeoverEntry byMarker).busData = s.busData ∧ (s.takeoverEntry byMarker).req.queue = s.req.queue ∧
    (s.takeoverEntry byMarker).req.completions = s.req.completions ∧
    (s.takeoverEntry byMarker).req.running = s.req.running ∧
    (s.takeoverEntry byMarker).req.assembling = s.req.assembling ∧
    (s.takeoverEntry byMarker).req.readPos = s.req.readPos ∧ (s.takeoverEntry byMarker).req.enable = s.req.enable ∧
    (s.takeoverEntry byMarker).req.drops = s.req.drops ∧ (s.takeoverEntry byMarker).req.counters = s.req.counters ∧
    (s.takeoverEntry byMarker).cfg = s.cfg ∧ (s.takeoverEntry byMarker).table = s.table ∧
    (s.takeoverEntry byMarker).aging = s.aging ∧ (s.takeoverEntry byMarker).pool.quarantine = s.pool.quarantine ∧
    (s.takeoverEntry byMarker).pool.bound = s.pool.bound ∧
    (s.takeoverEntry byMarker).pool.addrCount = s.pool.addrCount ∧
    (s.takeoverEntry byMarker).pool.staticBlocks = s.pool.staticBlocks ∧
    (s.takeoverEntry byMarker).pool.cursors = s.pool.cursors ∧ (s.takeoverEntry byMarker).dq = s.dq ∧
    (s.takeoverEntry byMarker).port.link = s.port.link ∧ (s.takeoverEntry byMarker).port.inFlight = s.port.inFlight ∧
    (s.takeoverEntry byMarker).port.carrier = s.port.carrier ∧
    (s.takeoverEntry byMarker).port.nextSeq = s.port.nextSeq ∧
    (s.takeoverEntry byMarker).port.expected = s.port.expected ∧
    (s.takeoverEntry byMarker).port.silence = s.port.silence ∧
    (s.takeoverEntry byMarker).port.lastEnd = s.port.lastEnd ∧
    (s.takeoverEntry byMarker).port.applying = s.port.applying ∧
    (s.takeoverEntry byMarker).port.sweepBegin = s.port.sweepBegin ∧
    (s.takeoverEntry byMarker).port.sweepEnd = s.port.sweepEnd ∧
    (s.takeoverEntry byMarker).hello.ackExchange = s.hello.ackExchange ∧
    (s.takeoverEntry byMarker).hello.refusal = s.hello.refusal ∧ (s.takeoverEntry byMarker).sweep = s.sweep ∧
    (s.takeoverEntry byMarker).monitor = s.monitor ∧ (s.takeoverEntry byMarker).arb.health = s.arb.health ∧
    (s.takeoverEntry byMarker).arb.hold = s.arb.hold ∧ (s.takeoverEntry byMarker).arb.peer = s.arb.peer ∧
    (s.takeoverEntry byMarker).due = s.due ∧ (s.takeoverEntry byMarker).now = s.now ∧
    (s.takeoverEntry byMarker).up = s.up := by
  unfold takeoverEntry; split <;> simp [up]

@[simp] theorem forgetSweepEnds_frame (s : State) :
    (s.forgetSweepEnds).pending = s.pending ∧ (s.forgetSweepEnds).clock = s.clock ∧
    (s.forgetSweepEnds).resetLow = s.resetLow ∧ (s.forgetSweepEnds).letter = s.letter ∧
    (s.forgetSweepEnds).busData = s.busData ∧ (s.forgetSweepEnds).req = s.req ∧ (s.forgetSweepEnds).cfg = s.cfg ∧
    (s.forgetSweepEnds).table = s.table ∧ (s.forgetSweepEnds).aging = s.aging ∧ (s.forgetSweepEnds).pool = s.pool ∧
    (s.forgetSweepEnds).dq = s.dq ∧ (s.forgetSweepEnds).port.link = s.port.link ∧
    (s.forgetSweepEnds).port.carrier = s.port.carrier ∧ (s.forgetSweepEnds).port.nextSeq = s.port.nextSeq ∧
    (s.forgetSweepEnds).port.expected = s.port.expected ∧ (s.forgetSweepEnds).port.heartbeat = s.port.heartbeat ∧
    (s.forgetSweepEnds).port.silence = s.port.silence ∧ (s.forgetSweepEnds).port.lastEnd = s.port.lastEnd ∧
    (s.forgetSweepEnds).port.applying = s.port.applying ∧
    (s.forgetSweepEnds).port.sweepBegin = s.port.sweepBegin ∧ (s.forgetSweepEnds).port.sweepEnd = s.port.sweepEnd ∧
    (s.forgetSweepEnds).port.yieldMarker = s.port.yieldMarker ∧ (s.forgetSweepEnds).port.tx = s.port.tx ∧
    (s.forgetSweepEnds).hello = s.hello ∧ (s.forgetSweepEnds).sweep = s.sweep ∧
    (s.forgetSweepEnds).driver = s.driver ∧ (s.forgetSweepEnds).monitor = s.monitor ∧
    (s.forgetSweepEnds).arb = s.arb ∧ (s.forgetSweepEnds).due = s.due ∧ (s.forgetSweepEnds).role = s.role ∧
    (s.forgetSweepEnds).now = s.now := by
  unfold forgetSweepEnds; simp

@[simp] theorem startSweep_frame (s : State) :
    (s.startSweep).pending = s.pending ∧ (s.startSweep).clock = s.clock ∧ (s.startSweep).resetLow = s.resetLow ∧
    (s.startSweep).letter = s.letter ∧ (s.startSweep).busData = s.busData ∧ (s.startSweep).req.queue = s.req.queue ∧
    (s.startSweep).req.completions = s.req.completions ∧ (s.startSweep).req.running = s.req.running ∧
    (s.startSweep).req.assembling = s.req.assembling ∧ (s.startSweep).req.readPos = s.req.readPos ∧
    (s.startSweep).req.enable = s.req.enable ∧ (s.startSweep).req.drops = s.req.drops ∧
    (s.startSweep).req.counters = s.req.counters ∧ (s.startSweep).cfg = s.cfg ∧ (s.startSweep).table = s.table ∧
    (s.startSweep).aging = s.aging ∧ (s.startSweep).pool.quarantine = s.pool.quarantine ∧
    (s.startSweep).pool.bound = s.pool.bound ∧ (s.startSweep).pool.addrCount = s.pool.addrCount ∧
    (s.startSweep).pool.staticBlocks = s.pool.staticBlocks ∧ (s.startSweep).pool.cursors = s.pool.cursors ∧
    (s.startSweep).dq = s.dq ∧ (s.startSweep).port.link = s.port.link ∧
    (s.startSweep).port.carrier = s.port.carrier ∧ (s.startSweep).port.nextSeq = s.port.nextSeq ∧
    (s.startSweep).port.expected = s.port.expected ∧ (s.startSweep).port.heartbeat = s.port.heartbeat ∧
    (s.startSweep).port.silence = s.port.silence ∧ (s.startSweep).port.lastEnd = s.port.lastEnd ∧
    (s.startSweep).port.applying = s.port.applying ∧
    (s.startSweep).port.yieldMarker = s.port.yieldMarker ∧ (s.startSweep).port.tx = s.port.tx ∧
    (s.startSweep).hello = s.hello ∧ (s.startSweep).sweep.scanCount = s.sweep.scanCount ∧
    (s.startSweep).driver = s.driver ∧ (s.startSweep).monitor = s.monitor ∧ (s.startSweep).arb = s.arb ∧
    (s.startSweep).due = s.due ∧ (s.startSweep).role = s.role ∧ (s.startSweep).now = s.now ∧
    (s.startSweep).up = s.up := by
  simp [startSweep, role, up]

@[simp] theorem abortSweep_frame (s : State) :
    (s.abortSweep).pending = s.pending ∧ (s.abortSweep).clock = s.clock ∧ (s.abortSweep).resetLow = s.resetLow ∧
    (s.abortSweep).letter = s.letter ∧ (s.abortSweep).busData = s.busData ∧ (s.abortSweep).req = s.req ∧
    (s.abortSweep).cfg = s.cfg ∧ (s.abortSweep).table = s.table ∧ (s.abortSweep).aging = s.aging ∧
    (s.abortSweep).pool = s.pool ∧ (s.abortSweep).dq = s.dq ∧ (s.abortSweep).port.link = s.port.link ∧
    (s.abortSweep).port.carrier = s.port.carrier ∧ (s.abortSweep).port.nextSeq = s.port.nextSeq ∧
    (s.abortSweep).port.expected = s.port.expected ∧ (s.abortSweep).port.heartbeat = s.port.heartbeat ∧
    (s.abortSweep).port.silence = s.port.silence ∧ (s.abortSweep).port.lastEnd = s.port.lastEnd ∧
    (s.abortSweep).port.applying = s.port.applying ∧
    (s.abortSweep).port.yieldMarker = s.port.yieldMarker ∧ (s.abortSweep).port.tx = s.port.tx ∧
    (s.abortSweep).hello = s.hello ∧ (s.abortSweep).sweep.cursor = s.sweep.cursor ∧
    (s.abortSweep).sweep.scanCount = s.sweep.scanCount ∧ (s.abortSweep).driver = s.driver ∧
    (s.abortSweep).monitor = s.monitor ∧ (s.abortSweep).arb = s.arb ∧ (s.abortSweep).due = s.due ∧
    (s.abortSweep).role = s.role ∧ (s.abortSweep).now = s.now ∧ (s.abortSweep).up = s.up := by
  unfold abortSweep; split <;> simp [role, up]

@[simp] theorem standDown_frame (s : State) :
    (s.standDown).pending = s.pending ∧ (s.standDown).clock = s.clock ∧ (s.standDown).resetLow = s.resetLow ∧
    (s.standDown).letter = s.letter ∧ (s.standDown).busData = s.busData ∧ (s.standDown).req.queue = s.req.queue ∧
    (s.standDown).req.completions = s.req.completions ∧ (s.standDown).req.running = s.req.running ∧
    (s.standDown).req.assembling = s.req.assembling ∧ (s.standDown).req.readPos = s.req.readPos ∧
    (s.standDown).req.enable = s.req.enable ∧ (s.standDown).req.drops = s.req.drops ∧
    (s.standDown).req.counters = s.req.counters ∧ (s.standDown).cfg = s.cfg ∧ (s.standDown).aging = s.aging ∧
    (s.standDown).pool = s.pool ∧ (s.standDown).dq.catchupCursor = s.dq.catchupCursor ∧
    (s.standDown).port.link = s.port.link ∧ (s.standDown).port.carrier = s.port.carrier ∧
    (s.standDown).port.nextSeq = s.port.nextSeq ∧ (s.standDown).port.expected = s.port.expected ∧
    (s.standDown).port.silence = s.port.silence ∧ (s.standDown).port.lastEnd = s.port.lastEnd ∧
    (s.standDown).port.applying = s.port.applying ∧
    (s.standDown).hello.ackExchange = s.hello.ackExchange ∧ (s.standDown).hello.refusal = s.hello.refusal ∧
    (s.standDown).sweep.cursor = s.sweep.cursor ∧ (s.standDown).sweep.scanCount = s.sweep.scanCount ∧
    (s.standDown).monitor = s.monitor ∧ (s.standDown).arb.epoch = s.arb.epoch ∧
    (s.standDown).arb.health = s.arb.health ∧ (s.standDown).arb.hold = s.arb.hold ∧
    (s.standDown).arb.takeoverTick = s.arb.takeoverTick ∧ (s.standDown).arb.grace = s.arb.grace ∧
    (s.standDown).arb.listen = s.arb.listen ∧ (s.standDown).arb.yieldTaken = s.arb.yieldTaken ∧
    (s.standDown).arb.peer = s.arb.peer ∧ (s.standDown).due = s.due ∧ (s.standDown).now = s.now ∧
    (s.standDown).up = s.up := by
  simp [standDown, up]

@[simp] theorem stopListen_frame (s : State) :
    (s.stopListen).pending = s.pending ∧ (s.stopListen).clock = s.clock ∧ (s.stopListen).resetLow = s.resetLow ∧
    (s.stopListen).letter = s.letter ∧ (s.stopListen).busData = s.busData ∧ (s.stopListen).req = s.req ∧
    (s.stopListen).cfg = s.cfg ∧ (s.stopListen).table = s.table ∧ (s.stopListen).aging = s.aging ∧
    (s.stopListen).pool = s.pool ∧ (s.stopListen).dq = s.dq ∧ (s.stopListen).port = s.port ∧
    (s.stopListen).hello = s.hello ∧ (s.stopListen).sweep = s.sweep ∧ (s.stopListen).driver = s.driver ∧
    (s.stopListen).monitor = s.monitor ∧ (s.stopListen).arb.role = s.arb.role ∧
    (s.stopListen).arb.epoch = s.arb.epoch ∧ (s.stopListen).arb.health = s.arb.health ∧
    (s.stopListen).arb.hold = s.arb.hold ∧ (s.stopListen).arb.takeoverTick = s.arb.takeoverTick ∧
    (s.stopListen).arb.grace = s.arb.grace ∧ (s.stopListen).arb.healthHold = s.arb.healthHold ∧
    (s.stopListen).arb.yieldTimer = s.arb.yieldTimer ∧ (s.stopListen).arb.yieldTaken = s.arb.yieldTaken ∧
    (s.stopListen).arb.yieldHanded = s.arb.yieldHanded ∧ (s.stopListen).arb.peer = s.arb.peer ∧
    (s.stopListen).due = s.due ∧ (s.stopListen).role = s.role ∧ (s.stopListen).now = s.now := by
  simp [stopListen, role]

@[simp] theorem stopStagger_frame (s : State) :
    (s.stopStagger).pending = s.pending ∧ (s.stopStagger).clock = s.clock ∧ (s.stopStagger).resetLow = s.resetLow ∧
    (s.stopStagger).letter = s.letter ∧ (s.stopStagger).busData = s.busData ∧ (s.stopStagger).req = s.req ∧
    (s.stopStagger).cfg = s.cfg ∧ (s.stopStagger).table = s.table ∧ (s.stopStagger).aging = s.aging ∧
    (s.stopStagger).pool = s.pool ∧ (s.stopStagger).dq = s.dq ∧ (s.stopStagger).port = s.port ∧
    (s.stopStagger).hello = s.hello ∧ (s.stopStagger).sweep = s.sweep ∧ (s.stopStagger).driver = s.driver ∧
    (s.stopStagger).monitor = s.monitor ∧ (s.stopStagger).arb.role = s.arb.role ∧
    (s.stopStagger).arb.epoch = s.arb.epoch ∧ (s.stopStagger).arb.health = s.arb.health ∧
    (s.stopStagger).arb.hold = s.arb.hold ∧ (s.stopStagger).arb.takeoverTick = s.arb.takeoverTick ∧
    (s.stopStagger).arb.grace = s.arb.grace ∧ (s.stopStagger).arb.healthHold = s.arb.healthHold ∧
    (s.stopStagger).arb.yieldTimer = s.arb.yieldTimer ∧ (s.stopStagger).arb.yieldTaken = s.arb.yieldTaken ∧
    (s.stopStagger).arb.yieldHanded = s.arb.yieldHanded ∧ (s.stopStagger).arb.peer = s.arb.peer ∧
    (s.stopStagger).due = s.due ∧ (s.stopStagger).role = s.role ∧ (s.stopStagger).now = s.now ∧
    (s.stopStagger).up = s.up := by
  unfold stopStagger; split <;> simp [role, up]

@[simp] theorem listenDecision_frame (s : State) :
    (s.listenDecision).pending = s.pending ∧ (s.listenDecision).clock = s.clock ∧
    (s.listenDecision).resetLow = s.resetLow ∧ (s.listenDecision).letter = s.letter ∧
    (s.listenDecision).busData = s.busData ∧ (s.listenDecision).req.queue = s.req.queue ∧
    (s.listenDecision).req.completions = s.req.completions ∧ (s.listenDecision).req.running = s.req.running ∧
    (s.listenDecision).req.assembling = s.req.assembling ∧ (s.listenDecision).req.readPos = s.req.readPos ∧
    (s.listenDecision).req.enable = s.req.enable ∧ (s.listenDecision).req.drops = s.req.drops ∧
    (s.listenDecision).req.counters = s.req.counters ∧ (s.listenDecision).cfg = s.cfg ∧
    (s.listenDecision).table = s.table ∧ (s.listenDecision).aging = s.aging ∧ (s.listenDecision).pool = s.pool ∧
    (s.listenDecision).dq = s.dq ∧ (s.listenDecision).port.link = s.port.link ∧
    (s.listenDecision).port.inFlight = s.port.inFlight ∧ (s.listenDecision).port.carrier = s.port.carrier ∧
    (s.listenDecision).port.nextSeq = s.port.nextSeq ∧ (s.listenDecision).port.expected = s.port.expected ∧
    (s.listenDecision).port.silence = s.port.silence ∧ (s.listenDecision).port.lastEnd = s.port.lastEnd ∧
    (s.listenDecision).port.applying = s.port.applying ∧
    (s.listenDecision).port.sweepBegin = s.port.sweepBegin ∧ (s.listenDecision).port.sweepEnd = s.port.sweepEnd ∧
    (s.listenDecision).hello.ackExchange = s.hello.ackExchange ∧ (s.listenDecision).hello.refusal = s.hello.refusal ∧
    (s.listenDecision).sweep = s.sweep ∧ (s.listenDecision).monitor = s.monitor ∧
    (s.listenDecision).arb.epoch = s.arb.epoch ∧ (s.listenDecision).arb.health = s.arb.health ∧
    (s.listenDecision).arb.hold = s.arb.hold ∧ (s.listenDecision).arb.takeoverTick = s.arb.takeoverTick ∧
    (s.listenDecision).arb.grace = s.arb.grace ∧ (s.listenDecision).arb.healthHold = s.arb.healthHold ∧
    (s.listenDecision).arb.yieldTaken = s.arb.yieldTaken ∧ (s.listenDecision).arb.peer = s.arb.peer ∧
    (s.listenDecision).due = s.due ∧ (s.listenDecision).now = s.now := by
  unfold listenDecision; (repeat' split) <;> simp

@[simp] theorem secondListenDecision_frame (s : State) :
    (s.secondListenDecision).pending = s.pending ∧ (s.secondListenDecision).clock = s.clock ∧
    (s.secondListenDecision).resetLow = s.resetLow ∧ (s.secondListenDecision).letter = s.letter ∧
    (s.secondListenDecision).busData = s.busData ∧ (s.secondListenDecision).req.queue = s.req.queue ∧
    (s.secondListenDecision).req.completions = s.req.completions ∧
    (s.secondListenDecision).req.running = s.req.running ∧
    (s.secondListenDecision).req.assembling = s.req.assembling ∧
    (s.secondListenDecision).req.readPos = s.req.readPos ∧ (s.secondListenDecision).req.enable = s.req.enable ∧
    (s.secondListenDecision).req.drops = s.req.drops ∧ (s.secondListenDecision).req.counters = s.req.counters ∧
    (s.secondListenDecision).cfg = s.cfg ∧ (s.secondListenDecision).table = s.table ∧
    (s.secondListenDecision).aging = s.aging ∧ (s.secondListenDecision).pool = s.pool ∧
    (s.secondListenDecision).dq = s.dq ∧ (s.secondListenDecision).port.link = s.port.link ∧
    (s.secondListenDecision).port.inFlight = s.port.inFlight ∧
    (s.secondListenDecision).port.carrier = s.port.carrier ∧ (s.secondListenDecision).port.nextSeq = s.port.nextSeq ∧
    (s.secondListenDecision).port.expected = s.port.expected ∧
    (s.secondListenDecision).port.silence = s.port.silence ∧ (s.secondListenDecision).port.lastEnd = s.port.lastEnd ∧
    (s.secondListenDecision).port.applying = s.port.applying ∧
    (s.secondListenDecision).port.sweepBegin = s.port.sweepBegin ∧
    (s.secondListenDecision).port.sweepEnd = s.port.sweepEnd ∧
    (s.secondListenDecision).hello.ackExchange = s.hello.ackExchange ∧
    (s.secondListenDecision).hello.refusal = s.hello.refusal ∧ (s.secondListenDecision).sweep = s.sweep ∧
    (s.secondListenDecision).monitor = s.monitor ∧ (s.secondListenDecision).arb.epoch = s.arb.epoch ∧
    (s.secondListenDecision).arb.health = s.arb.health ∧ (s.secondListenDecision).arb.hold = s.arb.hold ∧
    (s.secondListenDecision).arb.takeoverTick = s.arb.takeoverTick ∧
    (s.secondListenDecision).arb.grace = s.arb.grace ∧ (s.secondListenDecision).arb.healthHold = s.arb.healthHold ∧
    (s.secondListenDecision).arb.yieldTaken = s.arb.yieldTaken ∧ (s.secondListenDecision).arb.peer = s.arb.peer ∧
    (s.secondListenDecision).due = s.due ∧ (s.secondListenDecision).now = s.now ∧
    (s.secondListenDecision).up = s.up := by
  unfold secondListenDecision; (repeat' split) <;> simp [up]

@[simp] theorem stagger_frame (s : State) :
    (s.stagger).pending = s.pending ∧ (s.stagger).clock = s.clock ∧ (s.stagger).resetLow = s.resetLow ∧
    (s.stagger).letter = s.letter ∧ (s.stagger).busData = s.busData ∧ (s.stagger).req = s.req ∧
    (s.stagger).cfg = s.cfg ∧ (s.stagger).table = s.table ∧ (s.stagger).aging = s.aging ∧ (s.stagger).pool = s.pool ∧
    (s.stagger).dq = s.dq ∧ (s.stagger).port = s.port ∧ (s.stagger).hello = s.hello ∧ (s.stagger).sweep = s.sweep ∧
    (s.stagger).driver = s.driver ∧ (s.stagger).monitor = s.monitor ∧ (s.stagger).arb.role = s.arb.role ∧
    (s.stagger).arb.epoch = s.arb.epoch ∧ (s.stagger).arb.health = s.arb.health ∧ (s.stagger).arb.hold = s.arb.hold ∧
    (s.stagger).arb.takeoverTick = s.arb.takeoverTick ∧ (s.stagger).arb.grace = s.arb.grace ∧
    (s.stagger).arb.healthHold = s.arb.healthHold ∧ (s.stagger).arb.yieldTimer = s.arb.yieldTimer ∧
    (s.stagger).arb.yieldTaken = s.arb.yieldTaken ∧ (s.stagger).arb.yieldHanded = s.arb.yieldHanded ∧
    (s.stagger).arb.peer = s.arb.peer ∧ (s.stagger).due = s.due ∧ (s.stagger).role = s.role ∧
    (s.stagger).now = s.now := by
  unfold stagger; split <;> simp [role]

@[simp] theorem peerLoss_frame (s : State) (staggered : Bool) :
    (s.peerLoss staggered).pending = s.pending ∧ (s.peerLoss staggered).clock = s.clock ∧
    (s.peerLoss staggered).resetLow = s.resetLow ∧ (s.peerLoss staggered).letter = s.letter ∧
    (s.peerLoss staggered).busData = s.busData ∧ (s.peerLoss staggered).req.queue = s.req.queue ∧
    (s.peerLoss staggered).req.completions = s.req.completions ∧ (s.peerLoss staggered).req.running = s.req.running ∧
    (s.peerLoss staggered).req.assembling = s.req.assembling ∧ (s.peerLoss staggered).req.readPos = s.req.readPos ∧
    (s.peerLoss staggered).req.enable = s.req.enable ∧ (s.peerLoss staggered).req.drops = s.req.drops ∧
    (s.peerLoss staggered).req.counters = s.req.counters ∧ (s.peerLoss staggered).cfg = s.cfg ∧
    (s.peerLoss staggered).table = s.table ∧ (s.peerLoss staggered).aging = s.aging ∧
    (s.peerLoss staggered).pool.quarantine = s.pool.quarantine ∧ (s.peerLoss staggered).pool.bound = s.pool.bound ∧
    (s.peerLoss staggered).pool.addrCount = s.pool.addrCount ∧
    (s.peerLoss staggered).pool.staticBlocks = s.pool.staticBlocks ∧
    (s.peerLoss staggered).pool.cursors = s.pool.cursors ∧ (s.peerLoss staggered).dq = s.dq ∧
    (s.peerLoss staggered).port.link = s.port.link ∧ (s.peerLoss staggered).port.inFlight = s.port.inFlight ∧
    (s.peerLoss staggered).port.carrier = s.port.carrier ∧ (s.peerLoss staggered).port.nextSeq = s.port.nextSeq ∧
    (s.peerLoss staggered).port.expected = s.port.expected ∧ (s.peerLoss staggered).port.silence = s.port.silence ∧
    (s.peerLoss staggered).port.lastEnd = s.port.lastEnd ∧
    (s.peerLoss staggered).port.applying = s.port.applying ∧
    (s.peerLoss staggered).port.sweepBegin = s.port.sweepBegin ∧
    (s.peerLoss staggered).port.sweepEnd = s.port.sweepEnd ∧
    (s.peerLoss staggered).hello.ackExchange = s.hello.ackExchange ∧
    (s.peerLoss staggered).hello.refusal = s.hello.refusal ∧ (s.peerLoss staggered).sweep = s.sweep ∧
    (s.peerLoss staggered).monitor = s.monitor ∧ (s.peerLoss staggered).arb.health = s.arb.health ∧
    (s.peerLoss staggered).arb.hold = s.arb.hold ∧ (s.peerLoss staggered).arb.peer = s.arb.peer ∧
    (s.peerLoss staggered).due = s.due ∧ (s.peerLoss staggered).now = s.now ∧ (s.peerLoss staggered).up = s.up := by
  unfold peerLoss; (repeat' split) <;> simp [up]

@[simp] theorem lineRule_frame (s : State) :
    (s.lineRule).pending = s.pending ∧ (s.lineRule).clock = s.clock ∧ (s.lineRule).resetLow = s.resetLow ∧
    (s.lineRule).letter = s.letter ∧ (s.lineRule).busData = s.busData ∧ (s.lineRule).req.queue = s.req.queue ∧
    (s.lineRule).req.completions = s.req.completions ∧ (s.lineRule).req.running = s.req.running ∧
    (s.lineRule).req.assembling = s.req.assembling ∧ (s.lineRule).req.readPos = s.req.readPos ∧
    (s.lineRule).req.enable = s.req.enable ∧ (s.lineRule).req.drops = s.req.drops ∧
    (s.lineRule).req.counters = s.req.counters ∧ (s.lineRule).cfg = s.cfg ∧ (s.lineRule).table = s.table ∧
    (s.lineRule).aging = s.aging ∧ (s.lineRule).pool = s.pool ∧ (s.lineRule).dq = s.dq ∧
    (s.lineRule).port.link = s.port.link ∧ (s.lineRule).port.inFlight = s.port.inFlight ∧
    (s.lineRule).port.carrier = s.port.carrier ∧ (s.lineRule).port.nextSeq = s.port.nextSeq ∧
    (s.lineRule).port.expected = s.port.expected ∧ (s.lineRule).port.silence = s.port.silence ∧
    (s.lineRule).port.lastEnd = s.port.lastEnd ∧
    (s.lineRule).port.applying = s.port.applying ∧ (s.lineRule).port.sweepBegin = s.port.sweepBegin ∧
    (s.lineRule).port.sweepEnd = s.port.sweepEnd ∧ (s.lineRule).hello.ackExchange = s.hello.ackExchange ∧
    (s.lineRule).hello.refusal = s.hello.refusal ∧ (s.lineRule).sweep = s.sweep ∧ (s.lineRule).monitor = s.monitor ∧
    (s.lineRule).arb.epoch = s.arb.epoch ∧ (s.lineRule).arb.health = s.arb.health ∧
    (s.lineRule).arb.hold = s.arb.hold ∧ (s.lineRule).arb.takeoverTick = s.arb.takeoverTick ∧
    (s.lineRule).arb.grace = s.arb.grace ∧ (s.lineRule).arb.listen = s.arb.listen ∧
    (s.lineRule).arb.healthHold = s.arb.healthHold ∧ (s.lineRule).arb.yieldTaken = s.arb.yieldTaken ∧
    (s.lineRule).arb.peer = s.arb.peer ∧ (s.lineRule).due = s.due ∧ (s.lineRule).now = s.now ∧
    (s.lineRule).up = s.up := by
  unfold lineRule; split <;> simp [up]

@[simp] theorem relationLost_frame (s : State) :
    (s.relationLost).pending = s.pending ∧ (s.relationLost).clock = s.clock ∧
    (s.relationLost).resetLow = s.resetLow ∧ (s.relationLost).letter = s.letter ∧
    (s.relationLost).busData = s.busData ∧ (s.relationLost).req.queue = s.req.queue ∧
    (s.relationLost).req.completions = s.req.completions ∧ (s.relationLost).req.running = s.req.running ∧
    (s.relationLost).req.assembling = s.req.assembling ∧ (s.relationLost).req.readPos = s.req.readPos ∧
    (s.relationLost).req.enable = s.req.enable ∧ (s.relationLost).req.drops = s.req.drops ∧
    (s.relationLost).req.counters = s.req.counters ∧ (s.relationLost).cfg = s.cfg ∧
    (s.relationLost).table = s.table ∧ (s.relationLost).aging = s.aging ∧
    (s.relationLost).pool.quarantine = s.pool.quarantine ∧ (s.relationLost).pool.bound = s.pool.bound ∧
    (s.relationLost).pool.addrCount = s.pool.addrCount ∧ (s.relationLost).pool.staticBlocks = s.pool.staticBlocks ∧
    (s.relationLost).pool.cursors = s.pool.cursors ∧ (s.relationLost).dq = s.dq ∧
    (s.relationLost).port.link = s.port.link ∧ (s.relationLost).port.inFlight = s.port.inFlight ∧
    (s.relationLost).port.carrier = s.port.carrier ∧ (s.relationLost).port.nextSeq = s.port.nextSeq ∧
    (s.relationLost).port.expected = s.port.expected ∧ (s.relationLost).port.silence = s.port.silence ∧
    (s.relationLost).port.lastEnd = s.port.lastEnd ∧
    (s.relationLost).port.applying = s.port.applying ∧ (s.relationLost).port.sweepBegin = s.port.sweepBegin ∧
    (s.relationLost).port.sweepEnd = s.port.sweepEnd ∧ (s.relationLost).hello.ackExchange = s.hello.ackExchange ∧
    (s.relationLost).hello.refusal = s.hello.refusal ∧ (s.relationLost).sweep = s.sweep ∧
    (s.relationLost).monitor = s.monitor ∧ (s.relationLost).arb.health = s.arb.health ∧
    (s.relationLost).arb.hold = s.arb.hold ∧ (s.relationLost).arb.peer = s.arb.peer ∧ (s.relationLost).due = s.due ∧
    (s.relationLost).now = s.now ∧ (s.relationLost).up = s.up := by
  unfold relationLost; split <;> simp

@[simp] theorem lineClassChanged_frame (s : State) :
    (s.lineClassChanged).pending = s.pending ∧ (s.lineClassChanged).clock = s.clock ∧
    (s.lineClassChanged).resetLow = s.resetLow ∧ (s.lineClassChanged).letter = s.letter ∧
    (s.lineClassChanged).busData = s.busData ∧ (s.lineClassChanged).req.queue = s.req.queue ∧
    (s.lineClassChanged).req.completions = s.req.completions ∧ (s.lineClassChanged).req.running = s.req.running ∧
    (s.lineClassChanged).req.assembling = s.req.assembling ∧ (s.lineClassChanged).req.readPos = s.req.readPos ∧
    (s.lineClassChanged).req.enable = s.req.enable ∧ (s.lineClassChanged).req.drops = s.req.drops ∧
    (s.lineClassChanged).req.counters = s.req.counters ∧ (s.lineClassChanged).cfg = s.cfg ∧
    (s.lineClassChanged).table = s.table ∧ (s.lineClassChanged).aging = s.aging ∧
    (s.lineClassChanged).pool.quarantine = s.pool.quarantine ∧ (s.lineClassChanged).pool.bound = s.pool.bound ∧
    (s.lineClassChanged).pool.addrCount = s.pool.addrCount ∧
    (s.lineClassChanged).pool.staticBlocks = s.pool.staticBlocks ∧
    (s.lineClassChanged).pool.cursors = s.pool.cursors ∧ (s.lineClassChanged).dq = s.dq ∧
    (s.lineClassChanged).port.link = s.port.link ∧ (s.lineClassChanged).port.inFlight = s.port.inFlight ∧
    (s.lineClassChanged).port.carrier = s.port.carrier ∧ (s.lineClassChanged).port.nextSeq = s.port.nextSeq ∧
    (s.lineClassChanged).port.expected = s.port.expected ∧ (s.lineClassChanged).port.silence = s.port.silence ∧
    (s.lineClassChanged).port.lastEnd = s.port.lastEnd ∧
    (s.lineClassChanged).port.applying = s.port.applying ∧ (s.lineClassChanged).port.sweepBegin = s.port.sweepBegin ∧
    (s.lineClassChanged).port.sweepEnd = s.port.sweepEnd ∧
    (s.lineClassChanged).hello.ackExchange = s.hello.ackExchange ∧
    (s.lineClassChanged).hello.refusal = s.hello.refusal ∧ (s.lineClassChanged).sweep = s.sweep ∧
    (s.lineClassChanged).monitor = s.monitor ∧ (s.lineClassChanged).arb.health = s.arb.health ∧
    (s.lineClassChanged).arb.hold = s.arb.hold ∧ (s.lineClassChanged).arb.peer = s.arb.peer ∧
    (s.lineClassChanged).due = s.due ∧ (s.lineClassChanged).now = s.now ∧ (s.lineClassChanged).up = s.up := by
  unfold lineClassChanged; (repeat' split) <;> simp

@[simp] theorem beginYield_frame (s : State) :
    (s.beginYield).pending = s.pending ∧ (s.beginYield).clock = s.clock ∧ (s.beginYield).resetLow = s.resetLow ∧
    (s.beginYield).letter = s.letter ∧ (s.beginYield).busData = s.busData ∧ (s.beginYield).req.queue = s.req.queue ∧
    (s.beginYield).req.completions = s.req.completions ∧ (s.beginYield).req.running = s.req.running ∧
    (s.beginYield).req.assembling = s.req.assembling ∧ (s.beginYield).req.readPos = s.req.readPos ∧
    (s.beginYield).req.enable = s.req.enable ∧ (s.beginYield).req.drops = s.req.drops ∧
    (s.beginYield).req.counters = s.req.counters ∧ (s.beginYield).cfg = s.cfg ∧ (s.beginYield).table = s.table ∧
    (s.beginYield).aging = s.aging ∧ (s.beginYield).pool = s.pool ∧ (s.beginYield).dq = s.dq ∧
    (s.beginYield).port.link = s.port.link ∧ (s.beginYield).port.inFlight = s.port.inFlight ∧
    (s.beginYield).port.carrier = s.port.carrier ∧ (s.beginYield).port.nextSeq = s.port.nextSeq ∧
    (s.beginYield).port.expected = s.port.expected ∧ (s.beginYield).port.silence = s.port.silence ∧
    (s.beginYield).port.lastEnd = s.port.lastEnd ∧
    (s.beginYield).port.applying = s.port.applying ∧ (s.beginYield).port.sweepBegin = s.port.sweepBegin ∧
    (s.beginYield).port.sweepEnd = s.port.sweepEnd ∧ (s.beginYield).hello.ackExchange = s.hello.ackExchange ∧
    (s.beginYield).hello.refusal = s.hello.refusal ∧ (s.beginYield).sweep = s.sweep ∧
    (s.beginYield).monitor = s.monitor ∧ (s.beginYield).arb.epoch = s.arb.epoch ∧
    (s.beginYield).arb.health = s.arb.health ∧ (s.beginYield).arb.hold = s.arb.hold ∧
    (s.beginYield).arb.takeoverTick = s.arb.takeoverTick ∧ (s.beginYield).arb.grace = s.arb.grace ∧
    (s.beginYield).arb.listen = s.arb.listen ∧ (s.beginYield).arb.yieldTaken = s.arb.yieldTaken ∧
    (s.beginYield).arb.peer = s.arb.peer ∧ (s.beginYield).due = s.due ∧ (s.beginYield).now = s.now ∧
    (s.beginYield).up = s.up := by
  unfold beginYield; simp

@[simp] theorem handYield_frame (s : State) :
    (s.handYield).pending = s.pending ∧ (s.handYield).clock = s.clock ∧ (s.handYield).resetLow = s.resetLow ∧
    (s.handYield).letter = s.letter ∧ (s.handYield).busData = s.busData ∧ (s.handYield).req = s.req ∧
    (s.handYield).cfg = s.cfg ∧ (s.handYield).table = s.table ∧ (s.handYield).aging = s.aging ∧
    (s.handYield).pool = s.pool ∧ (s.handYield).dq = s.dq ∧ (s.handYield).port.link = s.port.link ∧
    (s.handYield).port.inFlight = s.port.inFlight ∧ (s.handYield).port.carrier = s.port.carrier ∧
    (s.handYield).port.nextSeq = s.port.nextSeq ∧ (s.handYield).port.expected = s.port.expected ∧
    (s.handYield).port.heartbeat = s.port.heartbeat ∧ (s.handYield).port.silence = s.port.silence ∧
    (s.handYield).port.lastEnd = s.port.lastEnd ∧
    (s.handYield).port.applying = s.port.applying ∧ (s.handYield).port.sweepBegin = s.port.sweepBegin ∧
    (s.handYield).port.sweepEnd = s.port.sweepEnd ∧ (s.handYield).port.tx = s.port.tx ∧
    (s.handYield).hello = s.hello ∧ (s.handYield).sweep = s.sweep ∧ (s.handYield).driver = s.driver ∧
    (s.handYield).monitor = s.monitor ∧ (s.handYield).arb.role = s.arb.role ∧ (s.handYield).arb.epoch = s.arb.epoch ∧
    (s.handYield).arb.health = s.arb.health ∧ (s.handYield).arb.hold = s.arb.hold ∧
    (s.handYield).arb.takeoverTick = s.arb.takeoverTick ∧ (s.handYield).arb.grace = s.arb.grace ∧
    (s.handYield).arb.listen = s.arb.listen ∧ (s.handYield).arb.healthHold = s.arb.healthHold ∧
    (s.handYield).arb.yieldTimer = s.arb.yieldTimer ∧ (s.handYield).arb.yieldTaken = s.arb.yieldTaken ∧
    (s.handYield).arb.peer = s.arb.peer ∧ (s.handYield).due = s.due ∧ (s.handYield).role = s.role ∧
    (s.handYield).now = s.now := by
  unfold handYield; split <;> simp [role]

@[simp] theorem completeLoopTest_frame (s : State) :
    (s.completeLoopTest).pending = s.pending ∧ (s.completeLoopTest).clock = s.clock ∧
    (s.completeLoopTest).resetLow = s.resetLow ∧ (s.completeLoopTest).letter = s.letter ∧
    (s.completeLoopTest).busData = s.busData ∧ (s.completeLoopTest).req.queue = s.req.queue ∧
    (s.completeLoopTest).req.assembling = s.req.assembling ∧ (s.completeLoopTest).req.readPos = s.req.readPos ∧
    (s.completeLoopTest).req.enable = s.req.enable ∧ (s.completeLoopTest).req.drops = s.req.drops ∧
    (s.completeLoopTest).req.counters = s.req.counters ∧ (s.completeLoopTest).cfg = s.cfg ∧
    (s.completeLoopTest).table = s.table ∧ (s.completeLoopTest).aging = s.aging ∧
    (s.completeLoopTest).pool = s.pool ∧ (s.completeLoopTest).dq = s.dq ∧
    (s.completeLoopTest).port.link = s.port.link ∧ (s.completeLoopTest).port.inFlight = s.port.inFlight ∧
    (s.completeLoopTest).port.carrier = s.port.carrier ∧ (s.completeLoopTest).port.nextSeq = s.port.nextSeq ∧
    (s.completeLoopTest).port.expected = s.port.expected ∧ (s.completeLoopTest).port.heartbeat = s.port.heartbeat ∧
    (s.completeLoopTest).port.silence = s.port.silence ∧ (s.completeLoopTest).port.lastEnd = s.port.lastEnd ∧
    (s.completeLoopTest).port.applying = s.port.applying ∧
    (s.completeLoopTest).port.sweepBegin = s.port.sweepBegin ∧ (s.completeLoopTest).port.sweepEnd = s.port.sweepEnd ∧
    (s.completeLoopTest).port.yieldMarker = s.port.yieldMarker ∧ (s.completeLoopTest).hello = s.hello ∧
    (s.completeLoopTest).sweep = s.sweep ∧ (s.completeLoopTest).driver = s.driver ∧
    (s.completeLoopTest).monitor = s.monitor ∧ (s.completeLoopTest).arb = s.arb ∧ (s.completeLoopTest).due = s.due ∧
    (s.completeLoopTest).role = s.role ∧ (s.completeLoopTest).now = s.now ∧ (s.completeLoopTest).up = s.up := by
  unfold completeLoopTest; split <;> simp [role, up]

@[simp] theorem completeFarTest_frame (s : State) :
    (s.completeFarTest).pending = s.pending ∧ (s.completeFarTest).clock = s.clock ∧
    (s.completeFarTest).resetLow = s.resetLow ∧ (s.completeFarTest).letter = s.letter ∧
    (s.completeFarTest).busData = s.busData ∧ (s.completeFarTest).req.queue = s.req.queue ∧
    (s.completeFarTest).req.assembling = s.req.assembling ∧ (s.completeFarTest).req.readPos = s.req.readPos ∧
    (s.completeFarTest).req.enable = s.req.enable ∧ (s.completeFarTest).req.drops = s.req.drops ∧
    (s.completeFarTest).req.counters = s.req.counters ∧ (s.completeFarTest).cfg = s.cfg ∧
    (s.completeFarTest).table = s.table ∧ (s.completeFarTest).aging = s.aging ∧ (s.completeFarTest).pool = s.pool ∧
    (s.completeFarTest).dq = s.dq ∧ (s.completeFarTest).port.link = s.port.link ∧
    (s.completeFarTest).port.inFlight = s.port.inFlight ∧ (s.completeFarTest).port.carrier = s.port.carrier ∧
    (s.completeFarTest).port.nextSeq = s.port.nextSeq ∧ (s.completeFarTest).port.expected = s.port.expected ∧
    (s.completeFarTest).port.heartbeat = s.port.heartbeat ∧ (s.completeFarTest).port.silence = s.port.silence ∧
    (s.completeFarTest).port.lastEnd = s.port.lastEnd ∧
    (s.completeFarTest).port.applying = s.port.applying ∧ (s.completeFarTest).port.sweepBegin = s.port.sweepBegin ∧
    (s.completeFarTest).port.sweepEnd = s.port.sweepEnd ∧ (s.completeFarTest).port.yieldMarker = s.port.yieldMarker ∧
    (s.completeFarTest).hello = s.hello ∧ (s.completeFarTest).sweep = s.sweep ∧
    (s.completeFarTest).driver = s.driver ∧ (s.completeFarTest).monitor = s.monitor ∧
    (s.completeFarTest).arb = s.arb ∧ (s.completeFarTest).due = s.due ∧ (s.completeFarTest).role = s.role ∧
    (s.completeFarTest).now = s.now ∧ (s.completeFarTest).up = s.up := by
  unfold completeFarTest; split <;> simp

@[simp] theorem portAtEnd_frame (s : State) (reason : EndReason) :
    (s.portAtEnd reason).pending = s.pending ∧ (s.portAtEnd reason).clock = s.clock ∧
    (s.portAtEnd reason).resetLow = s.resetLow ∧ (s.portAtEnd reason).letter = s.letter ∧
    (s.portAtEnd reason).busData = s.busData ∧ (s.portAtEnd reason).req = s.req ∧ (s.portAtEnd reason).cfg = s.cfg ∧
    (s.portAtEnd reason).table = s.table ∧ (s.portAtEnd reason).aging = s.aging ∧
    (s.portAtEnd reason).pool = s.pool ∧ (s.portAtEnd reason).dq = s.dq ∧
    (s.portAtEnd reason).port.carrier = s.port.carrier ∧ (s.portAtEnd reason).port.nextSeq = s.port.nextSeq ∧
    (s.portAtEnd reason).port.expected = s.port.expected ∧ (s.portAtEnd reason).hello = s.hello ∧
    (s.portAtEnd reason).sweep = s.sweep ∧ (s.portAtEnd reason).driver = s.driver ∧
    (s.portAtEnd reason).monitor = s.monitor ∧ (s.portAtEnd reason).arb = s.arb ∧ (s.portAtEnd reason).due = s.due ∧
    (s.portAtEnd reason).role = s.role ∧ (s.portAtEnd reason).now = s.now := by
  unfold portAtEnd; simp

@[simp] theorem endRelation_frame (s : State) (reason : EndReason) :
    (s.endRelation reason).pending = s.pending ∧ (s.endRelation reason).clock = s.clock ∧
    (s.endRelation reason).resetLow = s.resetLow ∧ (s.endRelation reason).letter = s.letter ∧
    (s.endRelation reason).busData = s.busData ∧ (s.endRelation reason).req.queue = s.req.queue ∧
    (s.endRelation reason).req.assembling = s.req.assembling ∧ (s.endRelation reason).req.readPos = s.req.readPos ∧
    (s.endRelation reason).req.enable = s.req.enable ∧ (s.endRelation reason).req.drops = s.req.drops ∧
    (s.endRelation reason).cfg = s.cfg ∧ (s.endRelation reason).aging = s.aging ∧
    (s.endRelation reason).pool.quarantine = s.pool.quarantine ∧ (s.endRelation reason).pool.bound = s.pool.bound ∧
    (s.endRelation reason).pool.addrCount = s.pool.addrCount ∧
    (s.endRelation reason).pool.staticBlocks = s.pool.staticBlocks ∧
    (s.endRelation reason).pool.cursors = s.pool.cursors ∧
    (s.endRelation reason).dq.catchupCursor = s.dq.catchupCursor ∧
    (s.endRelation reason).port.carrier = s.port.carrier ∧ (s.endRelation reason).port.nextSeq = s.port.nextSeq ∧
    (s.endRelation reason).port.expected = s.port.expected ∧
    (s.endRelation reason).hello.ackExchange = s.hello.ackExchange ∧
    (s.endRelation reason).hello.refusal = s.hello.refusal ∧ (s.endRelation reason).sweep.cursor = s.sweep.cursor ∧
    (s.endRelation reason).sweep.scanCount = s.sweep.scanCount ∧ (s.endRelation reason).monitor = s.monitor ∧
    (s.endRelation reason).arb.health = s.arb.health ∧ (s.endRelation reason).arb.hold = s.arb.hold ∧
    (s.endRelation reason).arb.peer = s.arb.peer ∧ (s.endRelation reason).due = s.due ∧
    (s.endRelation reason).now = s.now := by
  unfold endRelation; simp

@[simp] theorem settleRoles_frame (s : State) (own peer : Identity) :
    (s.settleRoles own peer).pending = s.pending ∧ (s.settleRoles own peer).clock = s.clock ∧
    (s.settleRoles own peer).resetLow = s.resetLow ∧ (s.settleRoles own peer).letter = s.letter ∧
    (s.settleRoles own peer).busData = s.busData ∧ (s.settleRoles own peer).req.queue = s.req.queue ∧
    (s.settleRoles own peer).req.completions = s.req.completions ∧
    (s.settleRoles own peer).req.running = s.req.running ∧
    (s.settleRoles own peer).req.assembling = s.req.assembling ∧
    (s.settleRoles own peer).req.readPos = s.req.readPos ∧ (s.settleRoles own peer).req.enable = s.req.enable ∧
    (s.settleRoles own peer).req.drops = s.req.drops ∧ (s.settleRoles own peer).req.counters = s.req.counters ∧
    (s.settleRoles own peer).cfg = s.cfg ∧ (s.settleRoles own peer).aging = s.aging ∧
    (s.settleRoles own peer).pool.quarantine = s.pool.quarantine ∧
    (s.settleRoles own peer).pool.bound = s.pool.bound ∧ (s.settleRoles own peer).pool.addrCount = s.pool.addrCount ∧
    (s.settleRoles own peer).pool.staticBlocks = s.pool.staticBlocks ∧
    (s.settleRoles own peer).pool.cursors = s.pool.cursors ∧
    (s.settleRoles own peer).dq.catchupCursor = s.dq.catchupCursor ∧
    (s.settleRoles own peer).port.link = s.port.link ∧ (s.settleRoles own peer).port.carrier = s.port.carrier ∧
    (s.settleRoles own peer).port.nextSeq = s.port.nextSeq ∧
    (s.settleRoles own peer).port.expected = s.port.expected ∧
    (s.settleRoles own peer).port.silence = s.port.silence ∧ (s.settleRoles own peer).port.lastEnd = s.port.lastEnd ∧
    (s.settleRoles own peer).port.applying = s.port.applying ∧
    (s.settleRoles own peer).hello.ackExchange = s.hello.ackExchange ∧
    (s.settleRoles own peer).hello.refusal = s.hello.refusal ∧
    (s.settleRoles own peer).sweep.scanCount = s.sweep.scanCount ∧ (s.settleRoles own peer).monitor = s.monitor ∧
    (s.settleRoles own peer).arb.health = s.arb.health ∧ (s.settleRoles own peer).arb.hold = s.arb.hold ∧
    (s.settleRoles own peer).arb.peer = s.arb.peer ∧ (s.settleRoles own peer).due = s.due ∧
    (s.settleRoles own peer).now = s.now ∧ (s.settleRoles own peer).up = s.up := by
  unfold settleRoles; (repeat' split) <;> simp [up]

@[simp] theorem relationStart_frame (s : State) :
    (s.relationStart).pending = s.pending ∧ (s.relationStart).clock = s.clock ∧
    (s.relationStart).resetLow = s.resetLow ∧ (s.relationStart).letter = s.letter ∧
    (s.relationStart).busData = s.busData ∧ (s.relationStart).req.queue = s.req.queue ∧
    (s.relationStart).req.completions = s.req.completions ∧ (s.relationStart).req.running = s.req.running ∧
    (s.relationStart).req.assembling = s.req.assembling ∧ (s.relationStart).req.readPos = s.req.readPos ∧
    (s.relationStart).req.enable = s.req.enable ∧ (s.relationStart).req.drops = s.req.drops ∧
    (s.relationStart).req.counters = s.req.counters ∧ (s.relationStart).cfg = s.cfg ∧
    (s.relationStart).aging = s.aging ∧ (s.relationStart).pool.quarantine = s.pool.quarantine ∧
    (s.relationStart).pool.bound = s.pool.bound ∧ (s.relationStart).pool.addrCount = s.pool.addrCount ∧
    (s.relationStart).pool.staticBlocks = s.pool.staticBlocks ∧ (s.relationStart).pool.cursors = s.pool.cursors ∧
    (s.relationStart).dq.catchupCursor = s.dq.catchupCursor ∧ (s.relationStart).port.carrier = s.port.carrier ∧
    (s.relationStart).port.lastEnd = s.port.lastEnd ∧
    (s.relationStart).port.applying = s.port.applying ∧ (s.relationStart).hello.ackExchange = s.hello.ackExchange ∧
    (s.relationStart).hello.refusal = s.hello.refusal ∧ (s.relationStart).sweep.scanCount = s.sweep.scanCount ∧
    (s.relationStart).monitor = s.monitor ∧ (s.relationStart).arb.health = s.arb.health ∧
    (s.relationStart).arb.hold = s.arb.hold ∧ (s.relationStart).due = s.due ∧ (s.relationStart).now = s.now := by
  unfold relationStart; dsimp only; split <;> simp

@[simp] theorem refusePeer_frame (s : State) :
    (s.refusePeer).pending = s.pending ∧ (s.refusePeer).clock = s.clock ∧ (s.refusePeer).resetLow = s.resetLow ∧
    (s.refusePeer).letter = s.letter ∧ (s.refusePeer).busData = s.busData ∧ (s.refusePeer).req.queue = s.req.queue ∧
    (s.refusePeer).req.completions = s.req.completions ∧ (s.refusePeer).req.running = s.req.running ∧
    (s.refusePeer).req.assembling = s.req.assembling ∧ (s.refusePeer).req.readPos = s.req.readPos ∧
    (s.refusePeer).req.enable = s.req.enable ∧ (s.refusePeer).req.drops = s.req.drops ∧
    (s.refusePeer).req.counters = s.req.counters ∧ (s.refusePeer).cfg = s.cfg ∧ (s.refusePeer).table = s.table ∧
    (s.refusePeer).aging = s.aging ∧ (s.refusePeer).pool.quarantine = s.pool.quarantine ∧
    (s.refusePeer).pool.bound = s.pool.bound ∧ (s.refusePeer).pool.addrCount = s.pool.addrCount ∧
    (s.refusePeer).pool.staticBlocks = s.pool.staticBlocks ∧ (s.refusePeer).pool.cursors = s.pool.cursors ∧
    (s.refusePeer).dq = s.dq ∧ (s.refusePeer).port.inFlight = s.port.inFlight ∧
    (s.refusePeer).port.carrier = s.port.carrier ∧ (s.refusePeer).port.nextSeq = s.port.nextSeq ∧
    (s.refusePeer).port.expected = s.port.expected ∧ (s.refusePeer).port.silence = s.port.silence ∧
    (s.refusePeer).port.lastEnd = s.port.lastEnd ∧
    (s.refusePeer).port.applying = s.port.applying ∧ (s.refusePeer).port.sweepBegin = s.port.sweepBegin ∧
    (s.refusePeer).port.sweepEnd = s.port.sweepEnd ∧ (s.refusePeer).hello.ackExchange = s.hello.ackExchange ∧
    (s.refusePeer).sweep = s.sweep ∧ (s.refusePeer).monitor = s.monitor ∧ (s.refusePeer).arb.health = s.arb.health ∧
    (s.refusePeer).arb.hold = s.arb.hold ∧ (s.refusePeer).arb.peer = s.arb.peer ∧ (s.refusePeer).due = s.due ∧
    (s.refusePeer).now = s.now := by
  unfold refusePeer enterRefused; dsimp only [id]; simp

@[simp] theorem refuseLocal_frame (s : State) (p : HelloPage) :
    (s.refuseLocal p).pending = s.pending ∧ (s.refuseLocal p).clock = s.clock ∧
    (s.refuseLocal p).resetLow = s.resetLow ∧ (s.refuseLocal p).letter = s.letter ∧
    (s.refuseLocal p).busData = s.busData ∧ (s.refuseLocal p).req.queue = s.req.queue ∧
    (s.refuseLocal p).req.completions = s.req.completions ∧ (s.refuseLocal p).req.running = s.req.running ∧
    (s.refuseLocal p).req.assembling = s.req.assembling ∧ (s.refuseLocal p).req.readPos = s.req.readPos ∧
    (s.refuseLocal p).req.enable = s.req.enable ∧ (s.refuseLocal p).req.drops = s.req.drops ∧
    (s.refuseLocal p).req.counters = s.req.counters ∧ (s.refuseLocal p).cfg = s.cfg ∧
    (s.refuseLocal p).table = s.table ∧ (s.refuseLocal p).aging = s.aging ∧
    (s.refuseLocal p).pool.quarantine = s.pool.quarantine ∧ (s.refuseLocal p).pool.bound = s.pool.bound ∧
    (s.refuseLocal p).pool.addrCount = s.pool.addrCount ∧ (s.refuseLocal p).pool.staticBlocks = s.pool.staticBlocks ∧
    (s.refuseLocal p).pool.cursors = s.pool.cursors ∧ (s.refuseLocal p).dq = s.dq ∧
    (s.refuseLocal p).port.inFlight = s.port.inFlight ∧ (s.refuseLocal p).port.carrier = s.port.carrier ∧
    (s.refuseLocal p).port.nextSeq = s.port.nextSeq ∧ (s.refuseLocal p).port.expected = s.port.expected ∧
    (s.refuseLocal p).port.silence = s.port.silence ∧ (s.refuseLocal p).port.lastEnd = s.port.lastEnd ∧
    (s.refuseLocal p).port.applying = s.port.applying ∧
    (s.refuseLocal p).port.sweepBegin = s.port.sweepBegin ∧ (s.refuseLocal p).port.sweepEnd = s.port.sweepEnd ∧
    (s.refuseLocal p).hello.ackExchange = s.hello.ackExchange ∧ (s.refuseLocal p).sweep = s.sweep ∧
    (s.refuseLocal p).monitor = s.monitor ∧ (s.refuseLocal p).arb.health = s.arb.health ∧
    (s.refuseLocal p).arb.hold = s.arb.hold ∧ (s.refuseLocal p).arb.peer = s.arb.peer ∧
    (s.refuseLocal p).due = s.due ∧ (s.refuseLocal p).now = s.now := by
  unfold refuseLocal enterRefused; dsimp only; simp

@[simp] theorem moveOn_frame (s : State) (p : HelloPage) :
    (s.moveOn p).pending = s.pending ∧ (s.moveOn p).clock = s.clock ∧ (s.moveOn p).resetLow = s.resetLow ∧
    (s.moveOn p).letter = s.letter ∧ (s.moveOn p).busData = s.busData ∧ (s.moveOn p).req.queue = s.req.queue ∧
    (s.moveOn p).req.completions = s.req.completions ∧ (s.moveOn p).req.running = s.req.running ∧
    (s.moveOn p).req.assembling = s.req.assembling ∧ (s.moveOn p).req.readPos = s.req.readPos ∧
    (s.moveOn p).req.enable = s.req.enable ∧ (s.moveOn p).req.drops = s.req.drops ∧
    (s.moveOn p).req.counters = s.req.counters ∧ (s.moveOn p).cfg = s.cfg ∧ (s.moveOn p).aging = s.aging ∧
    (s.moveOn p).pool.quarantine = s.pool.quarantine ∧ (s.moveOn p).pool.bound = s.pool.bound ∧
    (s.moveOn p).pool.addrCount = s.pool.addrCount ∧ (s.moveOn p).pool.staticBlocks = s.pool.staticBlocks ∧
    (s.moveOn p).pool.cursors = s.pool.cursors ∧ (s.moveOn p).dq.catchupCursor = s.dq.catchupCursor ∧
    (s.moveOn p).port.carrier = s.port.carrier ∧ (s.moveOn p).port.lastEnd = s.port.lastEnd ∧
    (s.moveOn p).port.applying = s.port.applying ∧
    (s.moveOn p).hello.ackExchange = s.hello.ackExchange ∧ (s.moveOn p).hello.refusal = s.hello.refusal ∧
    (s.moveOn p).sweep.scanCount = s.sweep.scanCount ∧ (s.moveOn p).monitor = s.monitor ∧
    (s.moveOn p).arb.health = s.arb.health ∧ (s.moveOn p).arb.hold = s.arb.hold ∧ (s.moveOn p).due = s.due ∧
    (s.moveOn p).now = s.now := by
  unfold moveOn; (repeat' split) <;> simp

@[simp] theorem acknowledge_frame (s : State) (p : HelloPage) :
    (s.acknowledge p).pending = s.pending ∧ (s.acknowledge p).clock = s.clock ∧
    (s.acknowledge p).resetLow = s.resetLow ∧ (s.acknowledge p).letter = s.letter ∧
    (s.acknowledge p).busData = s.busData ∧ (s.acknowledge p).req.queue = s.req.queue ∧
    (s.acknowledge p).req.completions = s.req.completions ∧ (s.acknowledge p).req.running = s.req.running ∧
    (s.acknowledge p).req.assembling = s.req.assembling ∧ (s.acknowledge p).req.readPos = s.req.readPos ∧
    (s.acknowledge p).req.enable = s.req.enable ∧ (s.acknowledge p).req.drops = s.req.drops ∧
    (s.acknowledge p).req.counters = s.req.counters ∧ (s.acknowledge p).cfg = s.cfg ∧
    (s.acknowledge p).aging = s.aging ∧ (s.acknowledge p).pool.quarantine = s.pool.quarantine ∧
    (s.acknowledge p).pool.bound = s.pool.bound ∧ (s.acknowledge p).pool.addrCount = s.pool.addrCount ∧
    (s.acknowledge p).pool.staticBlocks = s.pool.staticBlocks ∧ (s.acknowledge p).pool.cursors = s.pool.cursors ∧
    (s.acknowledge p).dq.catchupCursor = s.dq.catchupCursor ∧ (s.acknowledge p).port.carrier = s.port.carrier ∧
    (s.acknowledge p).port.lastEnd = s.port.lastEnd ∧
    (s.acknowledge p).port.applying = s.port.applying ∧ (s.acknowledge p).hello.ackExchange = s.hello.ackExchange ∧
    (s.acknowledge p).hello.refusal = s.hello.refusal ∧ (s.acknowledge p).sweep.scanCount = s.sweep.scanCount ∧
    (s.acknowledge p).monitor = s.monitor ∧ (s.acknowledge p).arb.health = s.arb.health ∧
    (s.acknowledge p).arb.hold = s.arb.hold ∧ (s.acknowledge p).due = s.due ∧ (s.acknowledge p).now = s.now := by
  unfold acknowledge; split <;> simp

@[simp] theorem takeNew_frame (s : State) (p : HelloPage) :
    (s.takeNew p).pending = s.pending ∧ (s.takeNew p).clock = s.clock ∧ (s.takeNew p).resetLow = s.resetLow ∧
    (s.takeNew p).letter = s.letter ∧ (s.takeNew p).busData = s.busData ∧ (s.takeNew p).req = s.req ∧
    (s.takeNew p).cfg = s.cfg ∧ (s.takeNew p).table = s.table ∧ (s.takeNew p).aging = s.aging ∧
    (s.takeNew p).pool = s.pool ∧ (s.takeNew p).dq = s.dq ∧ (s.takeNew p).port = s.port ∧
    (s.takeNew p).hello.ownPage = s.hello.ownPage ∧ (s.takeNew p).hello.toggle = s.hello.toggle ∧
    (s.takeNew p).hello.exchange = s.hello.exchange ∧ (s.takeNew p).hello.sentIdentity = s.hello.sentIdentity ∧
    (s.takeNew p).hello.pacingSince = s.hello.pacingSince ∧ (s.takeNew p).hello.refusal = s.hello.refusal ∧
    (s.takeNew p).sweep = s.sweep ∧ (s.takeNew p).driver = s.driver ∧ (s.takeNew p).monitor = s.monitor ∧
    (s.takeNew p).arb = s.arb ∧ (s.takeNew p).due = s.due ∧ (s.takeNew p).role = s.role ∧
    (s.takeNew p).now = s.now := by
  unfold takeNew; simp

@[simp] theorem takeRepeat_frame (s : State) (p : HelloPage) :
    (s.takeRepeat p).pending = s.pending ∧ (s.takeRepeat p).clock = s.clock ∧
    (s.takeRepeat p).resetLow = s.resetLow ∧ (s.takeRepeat p).letter = s.letter ∧
    (s.takeRepeat p).busData = s.busData ∧ (s.takeRepeat p).req = s.req ∧ (s.takeRepeat p).cfg = s.cfg ∧
    (s.takeRepeat p).table = s.table ∧ (s.takeRepeat p).aging = s.aging ∧ (s.takeRepeat p).pool = s.pool ∧
    (s.takeRepeat p).dq = s.dq ∧ (s.takeRepeat p).port = s.port ∧ (s.takeRepeat p).hello.ownPage = s.hello.ownPage ∧
    (s.takeRepeat p).hello.toggle = s.hello.toggle ∧ (s.takeRepeat p).hello.taken = s.hello.taken ∧
    (s.takeRepeat p).hello.exchange = s.hello.exchange ∧ (s.takeRepeat p).hello.comply = s.hello.comply ∧
    (s.takeRepeat p).hello.sentIdentity = s.hello.sentIdentity ∧
    (s.takeRepeat p).hello.pacingSince = s.hello.pacingSince ∧
    (s.takeRepeat p).hello.helloSince = s.hello.helloSince ∧ (s.takeRepeat p).hello.refusal = s.hello.refusal ∧
    (s.takeRepeat p).sweep = s.sweep ∧ (s.takeRepeat p).driver = s.driver ∧ (s.takeRepeat p).monitor = s.monitor ∧
    (s.takeRepeat p).arb = s.arb ∧ (s.takeRepeat p).due = s.due ∧ (s.takeRepeat p).role = s.role ∧
    (s.takeRepeat p).now = s.now := by
  unfold takeRepeat; split <;> simp

@[simp] theorem takeInStep_frame (s : State) (p : HelloPage) :
    (s.takeInStep p).pending = s.pending ∧ (s.takeInStep p).clock = s.clock ∧
    (s.takeInStep p).resetLow = s.resetLow ∧ (s.takeInStep p).letter = s.letter ∧
    (s.takeInStep p).busData = s.busData ∧ (s.takeInStep p).req.queue = s.req.queue ∧
    (s.takeInStep p).req.completions = s.req.completions ∧ (s.takeInStep p).req.running = s.req.running ∧
    (s.takeInStep p).req.assembling = s.req.assembling ∧ (s.takeInStep p).req.readPos = s.req.readPos ∧
    (s.takeInStep p).req.enable = s.req.enable ∧ (s.takeInStep p).req.drops = s.req.drops ∧
    (s.takeInStep p).req.counters = s.req.counters ∧ (s.takeInStep p).cfg = s.cfg ∧
    (s.takeInStep p).aging = s.aging ∧ (s.takeInStep p).pool.quarantine = s.pool.quarantine ∧
    (s.takeInStep p).pool.bound = s.pool.bound ∧ (s.takeInStep p).pool.addrCount = s.pool.addrCount ∧
    (s.takeInStep p).pool.staticBlocks = s.pool.staticBlocks ∧ (s.takeInStep p).pool.cursors = s.pool.cursors ∧
    (s.takeInStep p).dq.catchupCursor = s.dq.catchupCursor ∧ (s.takeInStep p).port.carrier = s.port.carrier ∧
    (s.takeInStep p).port.lastEnd = s.port.lastEnd ∧
    (s.takeInStep p).port.applying = s.port.applying ∧ (s.takeInStep p).sweep.scanCount = s.sweep.scanCount ∧
    (s.takeInStep p).monitor = s.monitor ∧ (s.takeInStep p).arb.health = s.arb.health ∧
    (s.takeInStep p).arb.hold = s.arb.hold ∧ (s.takeInStep p).due = s.due ∧ (s.takeInStep p).now = s.now := by
  unfold takeInStep; (repeat' split) <;> simp

@[simp] theorem takePage_frame (s : State) (p : HelloPage) :
    (s.takePage p).pending = s.pending ∧ (s.takePage p).clock = s.clock ∧ (s.takePage p).resetLow = s.resetLow ∧
    (s.takePage p).letter = s.letter ∧ (s.takePage p).busData = s.busData ∧ (s.takePage p).req.queue = s.req.queue ∧
    (s.takePage p).req.completions = s.req.completions ∧ (s.takePage p).req.running = s.req.running ∧
    (s.takePage p).req.assembling = s.req.assembling ∧ (s.takePage p).req.readPos = s.req.readPos ∧
    (s.takePage p).req.enable = s.req.enable ∧ (s.takePage p).req.drops = s.req.drops ∧
    (s.takePage p).req.counters = s.req.counters ∧ (s.takePage p).cfg = s.cfg ∧ (s.takePage p).aging = s.aging ∧
    (s.takePage p).pool.quarantine = s.pool.quarantine ∧ (s.takePage p).pool.bound = s.pool.bound ∧
    (s.takePage p).pool.addrCount = s.pool.addrCount ∧ (s.takePage p).pool.staticBlocks = s.pool.staticBlocks ∧
    (s.takePage p).pool.cursors = s.pool.cursors ∧ (s.takePage p).dq.catchupCursor = s.dq.catchupCursor ∧
    (s.takePage p).port.carrier = s.port.carrier ∧ (s.takePage p).port.lastEnd = s.port.lastEnd ∧
    (s.takePage p).port.applying = s.port.applying ∧
    (s.takePage p).sweep.scanCount = s.sweep.scanCount ∧ (s.takePage p).monitor = s.monitor ∧
    (s.takePage p).arb.health = s.arb.health ∧ (s.takePage p).arb.hold = s.arb.hold ∧ (s.takePage p).due = s.due ∧
    (s.takePage p).now = s.now := by
  unfold takePage; (repeat' split) <;> simp

@[simp] theorem heard_frame (s : State) :
    (s.heard).pending = s.pending ∧ (s.heard).clock = s.clock ∧ (s.heard).resetLow = s.resetLow ∧
    (s.heard).letter = s.letter ∧ (s.heard).busData = s.busData ∧ (s.heard).req = s.req ∧ (s.heard).cfg = s.cfg ∧
    (s.heard).table = s.table ∧ (s.heard).aging = s.aging ∧ (s.heard).pool = s.pool ∧ (s.heard).dq = s.dq ∧
    (s.heard).port.link = s.port.link ∧ (s.heard).port.inFlight = s.port.inFlight ∧
    (s.heard).port.carrier = s.port.carrier ∧ (s.heard).port.nextSeq = s.port.nextSeq ∧
    (s.heard).port.expected = s.port.expected ∧ (s.heard).port.heartbeat = s.port.heartbeat ∧
    (s.heard).port.lastEnd = s.port.lastEnd ∧
    (s.heard).port.applying = s.port.applying ∧ (s.heard).port.sweepBegin = s.port.sweepBegin ∧
    (s.heard).port.sweepEnd = s.port.sweepEnd ∧ (s.heard).port.yieldMarker = s.port.yieldMarker ∧
    (s.heard).port.tx = s.port.tx ∧ (s.heard).hello = s.hello ∧ (s.heard).sweep = s.sweep ∧
    (s.heard).driver = s.driver ∧ (s.heard).monitor = s.monitor ∧ (s.heard).arb = s.arb ∧ (s.heard).due = s.due ∧
    (s.heard).role = s.role ∧ (s.heard).now = s.now := by
  unfold heard; simp

@[simp] theorem receiveHello_frame (s : State) (p : HelloPage) :
    (s.receiveHello p).pending = s.pending ∧ (s.receiveHello p).clock = s.clock ∧
    (s.receiveHello p).resetLow = s.resetLow ∧ (s.receiveHello p).letter = s.letter ∧
    (s.receiveHello p).busData = s.busData ∧ (s.receiveHello p).req.queue = s.req.queue ∧
    (s.receiveHello p).req.assembling = s.req.assembling ∧ (s.receiveHello p).req.readPos = s.req.readPos ∧
    (s.receiveHello p).req.enable = s.req.enable ∧ (s.receiveHello p).req.drops = s.req.drops ∧
    (s.receiveHello p).cfg = s.cfg ∧ (s.receiveHello p).aging = s.aging ∧
    (s.receiveHello p).pool.quarantine = s.pool.quarantine ∧ (s.receiveHello p).pool.bound = s.pool.bound ∧
    (s.receiveHello p).pool.addrCount = s.pool.addrCount ∧
    (s.receiveHello p).pool.staticBlocks = s.pool.staticBlocks ∧ (s.receiveHello p).pool.cursors = s.pool.cursors ∧
    (s.receiveHello p).dq.catchupCursor = s.dq.catchupCursor ∧ (s.receiveHello p).port.carrier = s.port.carrier ∧
    (s.receiveHello p).sweep.scanCount = s.sweep.scanCount ∧ (s.receiveHello p).monitor = s.monitor ∧
    (s.receiveHello p).arb.health = s.arb.health ∧ (s.receiveHello p).arb.hold = s.arb.hold ∧
    (s.receiveHello p).due = s.due ∧ (s.receiveHello p).now = s.now := by
  unfold receiveHello; dsimp only; (repeat' split) <;> simp

@[simp] theorem startCatchup_frame (s : State) :
    (s.startCatchup).pending = s.pending ∧ (s.startCatchup).clock = s.clock ∧
    (s.startCatchup).resetLow = s.resetLow ∧ (s.startCatchup).letter = s.letter ∧
    (s.startCatchup).busData = s.busData ∧ (s.startCatchup).req = s.req ∧ (s.startCatchup).cfg = s.cfg ∧
    (s.startCatchup).table = s.table ∧ (s.startCatchup).aging = s.aging ∧ (s.startCatchup).pool = s.pool ∧
    (s.startCatchup).dq.entries = s.dq.entries ∧ (s.startCatchup).port = s.port ∧ (s.startCatchup).hello = s.hello ∧
    (s.startCatchup).sweep = s.sweep ∧ (s.startCatchup).driver = s.driver ∧ (s.startCatchup).monitor = s.monitor ∧
    (s.startCatchup).arb = s.arb ∧ (s.startCatchup).due = s.due ∧ (s.startCatchup).role = s.role ∧
    (s.startCatchup).now = s.now ∧ (s.startCatchup).up = s.up := by
  unfold startCatchup; split; exacts [by simp [up]; rfl, by simp]

@[simp] theorem settleHealthHold_frame (s : State) :
    (s.settleHealthHold).pending = s.pending ∧ (s.settleHealthHold).clock = s.clock ∧
    (s.settleHealthHold).resetLow = s.resetLow ∧ (s.settleHealthHold).letter = s.letter ∧
    (s.settleHealthHold).busData = s.busData ∧ (s.settleHealthHold).req = s.req ∧ (s.settleHealthHold).cfg = s.cfg ∧
    (s.settleHealthHold).table = s.table ∧ (s.settleHealthHold).aging = s.aging ∧
    (s.settleHealthHold).pool = s.pool ∧ (s.settleHealthHold).dq = s.dq ∧ (s.settleHealthHold).port = s.port ∧
    (s.settleHealthHold).hello = s.hello ∧ (s.settleHealthHold).sweep = s.sweep ∧
    (s.settleHealthHold).driver = s.driver ∧ (s.settleHealthHold).monitor = s.monitor ∧
    (s.settleHealthHold).arb.role = s.arb.role ∧ (s.settleHealthHold).arb.epoch = s.arb.epoch ∧
    (s.settleHealthHold).arb.health = s.arb.health ∧ (s.settleHealthHold).arb.hold = s.arb.hold ∧
    (s.settleHealthHold).arb.takeoverTick = s.arb.takeoverTick ∧ (s.settleHealthHold).arb.grace = s.arb.grace ∧
    (s.settleHealthHold).arb.listen = s.arb.listen ∧ (s.settleHealthHold).arb.yieldTimer = s.arb.yieldTimer ∧
    (s.settleHealthHold).arb.yieldTaken = s.arb.yieldTaken ∧
    (s.settleHealthHold).arb.yieldHanded = s.arb.yieldHanded ∧ (s.settleHealthHold).arb.peer = s.arb.peer ∧
    (s.settleHealthHold).due = s.due ∧ (s.settleHealthHold).role = s.role ∧ (s.settleHealthHold).now = s.now := by
  simp [settleHealthHold, role]

@[simp] theorem beatOnChange_frame (s : State) (b : State) :
    (beatOnChange b s).pending = s.pending ∧ (beatOnChange b s).clock = s.clock ∧
    (beatOnChange b s).resetLow = s.resetLow ∧ (beatOnChange b s).letter = s.letter ∧
    (beatOnChange b s).busData = s.busData ∧ (beatOnChange b s).req = s.req ∧ (beatOnChange b s).cfg = s.cfg ∧
    (beatOnChange b s).table = s.table ∧ (beatOnChange b s).aging = s.aging ∧ (beatOnChange b s).pool = s.pool ∧
    (beatOnChange b s).dq = s.dq ∧ (beatOnChange b s).port.link = s.port.link ∧
    (beatOnChange b s).port.inFlight = s.port.inFlight ∧ (beatOnChange b s).port.carrier = s.port.carrier ∧
    (beatOnChange b s).port.nextSeq = s.port.nextSeq ∧ (beatOnChange b s).port.expected = s.port.expected ∧
    (beatOnChange b s).port.silence = s.port.silence ∧ (beatOnChange b s).port.lastEnd = s.port.lastEnd ∧
    (beatOnChange b s).port.applying = s.port.applying ∧
    (beatOnChange b s).port.sweepBegin = s.port.sweepBegin ∧ (beatOnChange b s).port.sweepEnd = s.port.sweepEnd ∧
    (beatOnChange b s).port.yieldMarker = s.port.yieldMarker ∧
    (beatOnChange b s).port.tx.sending = s.port.tx.sending ∧ (beatOnChange b s).port.tx.hello = s.port.tx.hello ∧
    (beatOnChange b s).port.tx.acks = s.port.tx.acks ∧ (beatOnChange b s).port.tx.resend = s.port.tx.resend ∧
    (beatOnChange b s).port.tx.fresh = s.port.tx.fresh ∧ (beatOnChange b s).port.tx.returned = s.port.tx.returned ∧
    (beatOnChange b s).port.tx.outbound = s.port.tx.outbound ∧ (beatOnChange b s).hello = s.hello ∧
    (beatOnChange b s).sweep = s.sweep ∧ (beatOnChange b s).driver = s.driver ∧
    (beatOnChange b s).monitor = s.monitor ∧ (beatOnChange b s).arb = s.arb ∧ (beatOnChange b s).due = s.due ∧
    (beatOnChange b s).role = s.role ∧ (beatOnChange b s).now = s.now ∧ (beatOnChange b s).up = s.up := by
  unfold beatOnChange; split <;> simp [role, up]

@[simp] theorem followUp_frame (s : State) (b : State) :
    (followUp b s).pending = s.pending ∧ (followUp b s).clock = s.clock ∧ (followUp b s).resetLow = s.resetLow ∧
    (followUp b s).letter = s.letter ∧ (followUp b s).busData = s.busData ∧ (followUp b s).req = s.req ∧
    (followUp b s).cfg = s.cfg ∧ (followUp b s).table = s.table ∧ (followUp b s).aging = s.aging ∧
    (followUp b s).pool = s.pool ∧ (followUp b s).dq.entries = s.dq.entries ∧ (followUp b s).port.link = s.port.link ∧
    (followUp b s).port.inFlight = s.port.inFlight ∧ (followUp b s).port.carrier = s.port.carrier ∧
    (followUp b s).port.nextSeq = s.port.nextSeq ∧ (followUp b s).port.expected = s.port.expected ∧
    (followUp b s).port.silence = s.port.silence ∧ (followUp b s).port.lastEnd = s.port.lastEnd ∧
    (followUp b s).port.applying = s.port.applying ∧
    (followUp b s).port.sweepBegin = s.port.sweepBegin ∧ (followUp b s).port.sweepEnd = s.port.sweepEnd ∧
    (followUp b s).port.tx.sending = s.port.tx.sending ∧
    (followUp b s).port.tx.hello = s.port.tx.hello ∧
    (followUp b s).port.tx.acks = s.port.tx.acks ∧
    (followUp b s).port.tx.resend = s.port.tx.resend ∧
    (followUp b s).port.tx.fresh = s.port.tx.fresh ∧
    (followUp b s).port.tx.returned = s.port.tx.returned ∧
    (followUp b s).port.tx.outbound = s.port.tx.outbound ∧
    (followUp b s).hello = s.hello ∧ (followUp b s).sweep = s.sweep ∧ (followUp b s).driver = s.driver ∧
    (followUp b s).monitor = s.monitor ∧ (followUp b s).arb.role = s.arb.role ∧ (followUp b s).arb.epoch = s.arb.epoch ∧
    (followUp b s).arb.health = s.arb.health ∧ (followUp b s).arb.hold = s.arb.hold ∧
    (followUp b s).arb.takeoverTick = s.arb.takeoverTick ∧ (followUp b s).arb.grace = s.arb.grace ∧
    (followUp b s).arb.listen = s.arb.listen ∧ (followUp b s).arb.yieldTimer = s.arb.yieldTimer ∧
    (followUp b s).arb.yieldTaken = s.arb.yieldTaken ∧ (followUp b s).arb.peer = s.arb.peer ∧ (followUp b s).due = s.due ∧
    (followUp b s).role = s.role ∧ (followUp b s).now = s.now ∧ (followUp b s).up = s.up := by
  simp [followUp, role, up]

@[simp] theorem settle_frame (s : State) (b : State) :
    (settle b s).pending = s.pending ∧ (settle b s).clock = s.clock ∧ (settle b s).resetLow = s.resetLow ∧
    (settle b s).letter = s.letter ∧ (settle b s).busData = s.busData ∧ (settle b s).req = s.req ∧
    (settle b s).cfg = s.cfg ∧ (settle b s).table = s.table ∧ (settle b s).aging = s.aging ∧
    (settle b s).pool = s.pool ∧ (settle b s).dq.entries = s.dq.entries ∧ (settle b s).port.link = s.port.link ∧
    (settle b s).port.inFlight = s.port.inFlight ∧ (settle b s).port.carrier = s.port.carrier ∧
    (settle b s).port.nextSeq = s.port.nextSeq ∧ (settle b s).port.expected = s.port.expected ∧
    (settle b s).port.silence = s.port.silence ∧ (settle b s).port.lastEnd = s.port.lastEnd ∧
    (settle b s).port.applying = s.port.applying ∧
    (settle b s).port.sweepBegin = s.port.sweepBegin ∧ (settle b s).port.sweepEnd = s.port.sweepEnd ∧
    (settle b s).hello = s.hello ∧ (settle b s).sweep = s.sweep ∧ (settle b s).driver = s.driver ∧
    (settle b s).monitor = s.monitor ∧ (settle b s).arb.role = s.arb.role ∧ (settle b s).arb.epoch = s.arb.epoch ∧
    (settle b s).arb.health = s.arb.health ∧ (settle b s).arb.hold = s.arb.hold ∧
    (settle b s).arb.takeoverTick = s.arb.takeoverTick ∧ (settle b s).arb.grace = s.arb.grace ∧
    (settle b s).arb.listen = s.arb.listen ∧ (settle b s).arb.yieldTimer = s.arb.yieldTimer ∧
    (settle b s).arb.yieldTaken = s.arb.yieldTaken ∧ (settle b s).arb.peer = s.arb.peer ∧ (settle b s).due = s.due ∧
    (settle b s).role = s.role ∧ (settle b s).now = s.now ∧ (settle b s).up = s.up := by
  simp [settle, role, up]

@[simp] theorem dequeue_frame (s : State) (i : Nat) :
    (s.dequeue i).pending = s.pending ∧ (s.dequeue i).clock = s.clock ∧ (s.dequeue i).resetLow = s.resetLow ∧
    (s.dequeue i).letter = s.letter ∧ (s.dequeue i).busData = s.busData ∧ (s.dequeue i).req = s.req ∧
    (s.dequeue i).cfg = s.cfg ∧ (s.dequeue i).aging = s.aging ∧ (s.dequeue i).pool = s.pool ∧
    (s.dequeue i).dq.catchup = s.dq.catchup ∧ (s.dequeue i).dq.catchupCursor = s.dq.catchupCursor ∧
    (s.dequeue i).port = s.port ∧ (s.dequeue i).hello = s.hello ∧ (s.dequeue i).sweep = s.sweep ∧
    (s.dequeue i).driver = s.driver ∧ (s.dequeue i).monitor = s.monitor ∧ (s.dequeue i).arb = s.arb ∧
    (s.dequeue i).due = s.due ∧ (s.dequeue i).role = s.role ∧ (s.dequeue i).now = s.now ∧
    (s.dequeue i).up = s.up := by
  simp [dequeue, role, up]

@[simp] theorem dropEntry_frame (s : State) (i : Nat) :
    (s.dropEntry i).pending = s.pending ∧ (s.dropEntry i).clock = s.clock ∧ (s.dropEntry i).resetLow = s.resetLow ∧
    (s.dropEntry i).letter = s.letter ∧ (s.dropEntry i).busData = s.busData ∧ (s.dropEntry i).req = s.req ∧
    (s.dropEntry i).cfg = s.cfg ∧ (s.dropEntry i).aging = s.aging ∧ (s.dropEntry i).pool = s.pool ∧
    (s.dropEntry i).dq.catchup = s.dq.catchup ∧ (s.dropEntry i).dq.catchupCursor = s.dq.catchupCursor ∧
    (s.dropEntry i).port = s.port ∧ (s.dropEntry i).hello = s.hello ∧ (s.dropEntry i).sweep = s.sweep ∧
    (s.dropEntry i).driver = s.driver ∧ (s.dropEntry i).monitor = s.monitor ∧ (s.dropEntry i).arb = s.arb ∧
    (s.dropEntry i).due = s.due ∧ (s.dropEntry i).role = s.role ∧ (s.dropEntry i).now = s.now ∧
    (s.dropEntry i).up = s.up := by
  unfold dropEntry; dsimp only; split <;> simp [role, up]

@[simp] theorem takeEntry_frame (s : State) (e : Entry) :
    ((s.takeEntry e).1).pending = s.pending ∧ ((s.takeEntry e).1).clock = s.clock ∧
    ((s.takeEntry e).1).resetLow = s.resetLow ∧ ((s.takeEntry e).1).letter = s.letter ∧
    ((s.takeEntry e).1).busData = s.busData ∧ ((s.takeEntry e).1).req = s.req ∧ ((s.takeEntry e).1).cfg = s.cfg ∧
    ((s.takeEntry e).1).aging = s.aging ∧ ((s.takeEntry e).1).pool = s.pool ∧
    ((s.takeEntry e).1).dq.catchup = s.dq.catchup ∧ ((s.takeEntry e).1).dq.catchupCursor = s.dq.catchupCursor ∧
    ((s.takeEntry e).1).port = s.port ∧ ((s.takeEntry e).1).hello = s.hello ∧ ((s.takeEntry e).1).sweep = s.sweep ∧
    ((s.takeEntry e).1).driver = s.driver ∧ ((s.takeEntry e).1).monitor = s.monitor ∧
    ((s.takeEntry e).1).arb = s.arb ∧ ((s.takeEntry e).1).due = s.due ∧ ((s.takeEntry e).1).role = s.role ∧
    ((s.takeEntry e).1).now = s.now ∧ ((s.takeEntry e).1).up = s.up := by
  unfold takeEntry; dsimp only; (repeat' split) <;> simp

@[simp] theorem takeEntries_frame (s : State) (room : Nat) (es : List Entry) (ds : List Delta) :
    ((takeEntries room es s ds).1).pending = s.pending ∧ ((takeEntries room es s ds).1).clock = s.clock ∧
    ((takeEntries room es s ds).1).resetLow = s.resetLow ∧ ((takeEntries room es s ds).1).letter = s.letter ∧
    ((takeEntries room es s ds).1).busData = s.busData ∧ ((takeEntries room es s ds).1).req = s.req ∧
    ((takeEntries room es s ds).1).cfg = s.cfg ∧ ((takeEntries room es s ds).1).aging = s.aging ∧
    ((takeEntries room es s ds).1).pool = s.pool ∧
    ((takeEntries room es s ds).1).port = s.port ∧ ((takeEntries room es s ds).1).hello = s.hello ∧
    ((takeEntries room es s ds).1).sweep = s.sweep ∧ ((takeEntries room es s ds).1).driver = s.driver ∧
    ((takeEntries room es s ds).1).monitor = s.monitor ∧ ((takeEntries room es s ds).1).arb = s.arb ∧
    ((takeEntries room es s ds).1).due = s.due ∧ ((takeEntries room es s ds).1).role = s.role ∧
    ((takeEntries room es s ds).1).now = s.now ∧ ((takeEntries room es s ds).1).up = s.up := by
  induction es generalizing s ds with | nil => simp [takeEntries] | cons e es ih => (unfold takeEntries; split <;> simp [ih])

@[simp] theorem scanSlot_frame (s : State) :
    (s.scanSlot.1).pending = s.pending ∧ (s.scanSlot.1).clock = s.clock ∧ (s.scanSlot.1).resetLow = s.resetLow ∧
    (s.scanSlot.1).letter = s.letter ∧ (s.scanSlot.1).busData = s.busData ∧ (s.scanSlot.1).req = s.req ∧
    (s.scanSlot.1).cfg = s.cfg ∧ (s.scanSlot.1).aging = s.aging ∧ (s.scanSlot.1).pool = s.pool ∧
    (s.scanSlot.1).dq.catchup = s.dq.catchup ∧ (s.scanSlot.1).dq.catchupCursor = s.dq.catchupCursor ∧
    (s.scanSlot.1).port = s.port ∧ (s.scanSlot.1).hello = s.hello ∧ (s.scanSlot.1).sweep.state = s.sweep.state ∧
    (s.scanSlot.1).driver = s.driver ∧ (s.scanSlot.1).monitor = s.monitor ∧ (s.scanSlot.1).arb = s.arb ∧
    (s.scanSlot.1).due = s.due ∧ (s.scanSlot.1).role = s.role ∧ (s.scanSlot.1).now = s.now := by
  unfold scanSlot; dsimp only; (repeat' split) <;> simp

@[simp] theorem scan_frame (s : State) (fuel : Nat) (ds : List Delta) :
    ((scan fuel s ds).1).pending = s.pending ∧ ((scan fuel s ds).1).clock = s.clock ∧
    ((scan fuel s ds).1).resetLow = s.resetLow ∧ ((scan fuel s ds).1).letter = s.letter ∧
    ((scan fuel s ds).1).busData = s.busData ∧ ((scan fuel s ds).1).req = s.req ∧ ((scan fuel s ds).1).cfg = s.cfg ∧
    ((scan fuel s ds).1).aging = s.aging ∧ ((scan fuel s ds).1).pool = s.pool ∧
    ((scan fuel s ds).1).dq.catchup = s.dq.catchup ∧ ((scan fuel s ds).1).dq.catchupCursor = s.dq.catchupCursor ∧
    ((scan fuel s ds).1).port = s.port ∧ ((scan fuel s ds).1).hello = s.hello ∧
    ((scan fuel s ds).1).sweep.state = s.sweep.state ∧ ((scan fuel s ds).1).driver = s.driver ∧
    ((scan fuel s ds).1).monitor = s.monitor ∧ ((scan fuel s ds).1).arb = s.arb ∧ ((scan fuel s ds).1).due = s.due ∧
    ((scan fuel s ds).1).role = s.role ∧ ((scan fuel s ds).1).now = s.now := by
  induction fuel generalizing s ds with | zero => simp [scan] | succ n ih => (unfold scan; split <;> simp [ih])

@[simp] theorem placeSweepBegin_frame (s : State) :
    (s.placeSweepBegin.1).pending = s.pending ∧ (s.placeSweepBegin.1).clock = s.clock ∧
    (s.placeSweepBegin.1).resetLow = s.resetLow ∧ (s.placeSweepBegin.1).letter = s.letter ∧
    (s.placeSweepBegin.1).busData = s.busData ∧ (s.placeSweepBegin.1).req = s.req ∧
    (s.placeSweepBegin.1).cfg = s.cfg ∧ (s.placeSweepBegin.1).table = s.table ∧
    (s.placeSweepBegin.1).aging = s.aging ∧ (s.placeSweepBegin.1).pool = s.pool ∧ (s.placeSweepBegin.1).dq = s.dq ∧
    (s.placeSweepBegin.1).port.link = s.port.link ∧ (s.placeSweepBegin.1).port.inFlight = s.port.inFlight ∧
    (s.placeSweepBegin.1).port.carrier = s.port.carrier ∧ (s.placeSweepBegin.1).port.nextSeq = s.port.nextSeq ∧
    (s.placeSweepBegin.1).port.expected = s.port.expected ∧ (s.placeSweepBegin.1).port.heartbeat = s.port.heartbeat ∧
    (s.placeSweepBegin.1).port.silence = s.port.silence ∧ (s.placeSweepBegin.1).port.lastEnd = s.port.lastEnd ∧
    (s.placeSweepBegin.1).port.applying = s.port.applying ∧
    (s.placeSweepBegin.1).port.sweepEnd = s.port.sweepEnd ∧
    (s.placeSweepBegin.1).port.yieldMarker = s.port.yieldMarker ∧ (s.placeSweepBegin.1).port.tx = s.port.tx ∧
    (s.placeSweepBegin.1).hello = s.hello ∧ (s.placeSweepBegin.1).sweep = s.sweep ∧
    (s.placeSweepBegin.1).driver = s.driver ∧ (s.placeSweepBegin.1).monitor = s.monitor ∧
    (s.placeSweepBegin.1).arb = s.arb ∧ (s.placeSweepBegin.1).due = s.due ∧ (s.placeSweepBegin.1).role = s.role ∧
    (s.placeSweepBegin.1).now = s.now := by
  unfold placeSweepBegin; split <;> simp

@[simp] theorem placeFills_frame (s : State) (ds : List Delta) :
    ((s.placeFills ds).1).pending = s.pending ∧ ((s.placeFills ds).1).clock = s.clock ∧
    ((s.placeFills ds).1).resetLow = s.resetLow ∧ ((s.placeFills ds).1).letter = s.letter ∧
    ((s.placeFills ds).1).busData = s.busData ∧ ((s.placeFills ds).1).req = s.req ∧
    ((s.placeFills ds).1).cfg = s.cfg ∧ ((s.placeFills ds).1).aging = s.aging ∧ ((s.placeFills ds).1).pool = s.pool ∧
    ((s.placeFills ds).1).dq.catchup = s.dq.catchup ∧ ((s.placeFills ds).1).dq.catchupCursor = s.dq.catchupCursor ∧
    ((s.placeFills ds).1).port = s.port ∧ ((s.placeFills ds).1).hello = s.hello ∧
    ((s.placeFills ds).1).sweep.state = s.sweep.state ∧ ((s.placeFills ds).1).driver = s.driver ∧
    ((s.placeFills ds).1).monitor = s.monitor ∧ ((s.placeFills ds).1).arb = s.arb ∧
    ((s.placeFills ds).1).due = s.due ∧ ((s.placeFills ds).1).role = s.role ∧ ((s.placeFills ds).1).now = s.now := by
  unfold placeFills; split <;> simp

@[simp] theorem placeSweepEnd_frame (s : State) (ds : List Delta) :
    ((s.placeSweepEnd ds).1).pending = s.pending ∧ ((s.placeSweepEnd ds).1).clock = s.clock ∧
    ((s.placeSweepEnd ds).1).resetLow = s.resetLow ∧ ((s.placeSweepEnd ds).1).letter = s.letter ∧
    ((s.placeSweepEnd ds).1).busData = s.busData ∧ ((s.placeSweepEnd ds).1).req = s.req ∧
    ((s.placeSweepEnd ds).1).cfg = s.cfg ∧ ((s.placeSweepEnd ds).1).table = s.table ∧
    ((s.placeSweepEnd ds).1).aging = s.aging ∧ ((s.placeSweepEnd ds).1).pool = s.pool ∧
    ((s.placeSweepEnd ds).1).dq = s.dq ∧ ((s.placeSweepEnd ds).1).port.link = s.port.link ∧
    ((s.placeSweepEnd ds).1).port.inFlight = s.port.inFlight ∧
    ((s.placeSweepEnd ds).1).port.carrier = s.port.carrier ∧ ((s.placeSweepEnd ds).1).port.nextSeq = s.port.nextSeq ∧
    ((s.placeSweepEnd ds).1).port.expected = s.port.expected ∧
    ((s.placeSweepEnd ds).1).port.heartbeat = s.port.heartbeat ∧
    ((s.placeSweepEnd ds).1).port.silence = s.port.silence ∧ ((s.placeSweepEnd ds).1).port.lastEnd = s.port.lastEnd ∧
    ((s.placeSweepEnd ds).1).port.applying = s.port.applying ∧
    ((s.placeSweepEnd ds).1).port.sweepBegin = s.port.sweepBegin ∧
    ((s.placeSweepEnd ds).1).port.yieldMarker = s.port.yieldMarker ∧ ((s.placeSweepEnd ds).1).port.tx = s.port.tx ∧
    ((s.placeSweepEnd ds).1).hello = s.hello ∧ ((s.placeSweepEnd ds).1).sweep.cursor = s.sweep.cursor ∧
    ((s.placeSweepEnd ds).1).sweep.scanCount = s.sweep.scanCount ∧ ((s.placeSweepEnd ds).1).driver = s.driver ∧
    ((s.placeSweepEnd ds).1).monitor = s.monitor ∧ ((s.placeSweepEnd ds).1).arb = s.arb ∧
    ((s.placeSweepEnd ds).1).due = s.due ∧ ((s.placeSweepEnd ds).1).role = s.role ∧
    ((s.placeSweepEnd ds).1).now = s.now := by
  unfold placeSweepEnd; (repeat' split) <;> simp

@[simp] theorem placeYield_frame (s : State) (ds : List Delta) :
    ((s.placeYield ds).1).pending = s.pending ∧ ((s.placeYield ds).1).clock = s.clock ∧
    ((s.placeYield ds).1).resetLow = s.resetLow ∧ ((s.placeYield ds).1).letter = s.letter ∧
    ((s.placeYield ds).1).busData = s.busData ∧ ((s.placeYield ds).1).req = s.req ∧
    ((s.placeYield ds).1).cfg = s.cfg ∧ ((s.placeYield ds).1).table = s.table ∧
    ((s.placeYield ds).1).aging = s.aging ∧ ((s.placeYield ds).1).pool = s.pool ∧ ((s.placeYield ds).1).dq = s.dq ∧
    ((s.placeYield ds).1).port.link = s.port.link ∧ ((s.placeYield ds).1).port.inFlight = s.port.inFlight ∧
    ((s.placeYield ds).1).port.carrier = s.port.carrier ∧ ((s.placeYield ds).1).port.nextSeq = s.port.nextSeq ∧
    ((s.placeYield ds).1).port.expected = s.port.expected ∧ ((s.placeYield ds).1).port.heartbeat = s.port.heartbeat ∧
    ((s.placeYield ds).1).port.silence = s.port.silence ∧ ((s.placeYield ds).1).port.lastEnd = s.port.lastEnd ∧
    ((s.placeYield ds).1).port.applying = s.port.applying ∧
    ((s.placeYield ds).1).port.sweepBegin = s.port.sweepBegin ∧
    ((s.placeYield ds).1).port.sweepEnd = s.port.sweepEnd ∧ ((s.placeYield ds).1).port.tx = s.port.tx ∧
    ((s.placeYield ds).1).hello = s.hello ∧ ((s.placeYield ds).1).sweep = s.sweep ∧
    ((s.placeYield ds).1).driver = s.driver ∧ ((s.placeYield ds).1).monitor = s.monitor ∧
    ((s.placeYield ds).1).arb.role = s.arb.role ∧ ((s.placeYield ds).1).arb.epoch = s.arb.epoch ∧
    ((s.placeYield ds).1).arb.health = s.arb.health ∧ ((s.placeYield ds).1).arb.hold = s.arb.hold ∧
    ((s.placeYield ds).1).arb.takeoverTick = s.arb.takeoverTick ∧ ((s.placeYield ds).1).arb.grace = s.arb.grace ∧
    ((s.placeYield ds).1).arb.listen = s.arb.listen ∧ ((s.placeYield ds).1).arb.healthHold = s.arb.healthHold ∧
    ((s.placeYield ds).1).arb.yieldTimer = s.arb.yieldTimer ∧
    ((s.placeYield ds).1).arb.yieldTaken = s.arb.yieldTaken ∧ ((s.placeYield ds).1).arb.peer = s.arb.peer ∧
    ((s.placeYield ds).1).due = s.due ∧ ((s.placeYield ds).1).role = s.role ∧ ((s.placeYield ds).1).now = s.now ∧
    ((s.placeYield ds).1).up = s.up := by
  unfold placeYield; dsimp only; split <;> simp [role, up]

@[simp] theorem gatherRecords_frame (s : State) :
    (s.gatherRecords.1).pending = s.pending ∧ (s.gatherRecords.1).clock = s.clock ∧
    (s.gatherRecords.1).resetLow = s.resetLow ∧ (s.gatherRecords.1).letter = s.letter ∧
    (s.gatherRecords.1).busData = s.busData ∧ (s.gatherRecords.1).req = s.req ∧ (s.gatherRecords.1).cfg = s.cfg ∧
    (s.gatherRecords.1).aging = s.aging ∧ (s.gatherRecords.1).pool = s.pool ∧
    (s.gatherRecords.1).port.link = s.port.link ∧ (s.gatherRecords.1).port.inFlight = s.port.inFlight ∧
    (s.gatherRecords.1).port.carrier = s.port.carrier ∧ (s.gatherRecords.1).port.nextSeq = s.port.nextSeq ∧
    (s.gatherRecords.1).port.expected = s.port.expected ∧ (s.gatherRecords.1).port.heartbeat = s.port.heartbeat ∧
    (s.gatherRecords.1).port.silence = s.port.silence ∧ (s.gatherRecords.1).port.lastEnd = s.port.lastEnd ∧
    (s.gatherRecords.1).port.applying = s.port.applying ∧
    (s.gatherRecords.1).port.tx = s.port.tx ∧ (s.gatherRecords.1).hello = s.hello ∧
    (s.gatherRecords.1).driver = s.driver ∧ (s.gatherRecords.1).monitor = s.monitor ∧
    (s.gatherRecords.1).arb.role = s.arb.role ∧ (s.gatherRecords.1).arb.epoch = s.arb.epoch ∧
    (s.gatherRecords.1).arb.health = s.arb.health ∧ (s.gatherRecords.1).arb.hold = s.arb.hold ∧
    (s.gatherRecords.1).arb.takeoverTick = s.arb.takeoverTick ∧ (s.gatherRecords.1).arb.grace = s.arb.grace ∧
    (s.gatherRecords.1).arb.listen = s.arb.listen ∧ (s.gatherRecords.1).arb.healthHold = s.arb.healthHold ∧
    (s.gatherRecords.1).arb.yieldTimer = s.arb.yieldTimer ∧ (s.gatherRecords.1).arb.yieldTaken = s.arb.yieldTaken ∧
    (s.gatherRecords.1).arb.peer = s.arb.peer ∧ (s.gatherRecords.1).due = s.due ∧ (s.gatherRecords.1).role = s.role ∧
    (s.gatherRecords.1).now = s.now ∧ (s.gatherRecords.1).up = s.up := by
  simp [gatherRecords, role, up]

@[simp] theorem launch_frame (s : State) (ds : List Delta) (endsSweep : Bool) :
    (s.launch ds endsSweep).pending = s.pending ∧ (s.launch ds endsSweep).clock = s.clock ∧
    (s.launch ds endsSweep).resetLow = s.resetLow ∧ (s.launch ds endsSweep).letter = s.letter ∧
    (s.launch ds endsSweep).busData = s.busData ∧ (s.launch ds endsSweep).req = s.req ∧
    (s.launch ds endsSweep).cfg = s.cfg ∧ (s.launch ds endsSweep).table = s.table ∧
    (s.launch ds endsSweep).aging = s.aging ∧ (s.launch ds endsSweep).pool = s.pool ∧
    (s.launch ds endsSweep).dq = s.dq ∧ (s.launch ds endsSweep).port.link = s.port.link ∧
    (s.launch ds endsSweep).port.carrier = s.port.carrier ∧ (s.launch ds endsSweep).port.expected = s.port.expected ∧
    (s.launch ds endsSweep).port.heartbeat = s.port.heartbeat ∧
    (s.launch ds endsSweep).port.silence = s.port.silence ∧ (s.launch ds endsSweep).port.lastEnd = s.port.lastEnd ∧
    (s.launch ds endsSweep).port.applying = s.port.applying ∧
    (s.launch ds endsSweep).port.sweepBegin = s.port.sweepBegin ∧
    (s.launch ds endsSweep).port.sweepEnd = s.port.sweepEnd ∧
    (s.launch ds endsSweep).port.yieldMarker = s.port.yieldMarker ∧
    (s.launch ds endsSweep).port.tx.sending = s.port.tx.sending ∧
    (s.launch ds endsSweep).port.tx.hello = s.port.tx.hello ∧ (s.launch ds endsSweep).port.tx.acks = s.port.tx.acks ∧
    (s.launch ds endsSweep).port.tx.beat = s.port.tx.beat ∧
    (s.launch ds endsSweep).port.tx.resend = s.port.tx.resend ∧
    (s.launch ds endsSweep).port.tx.returned = s.port.tx.returned ∧
    (s.launch ds endsSweep).port.tx.outbound = s.port.tx.outbound ∧ (s.launch ds endsSweep).hello = s.hello ∧
    (s.launch ds endsSweep).sweep = s.sweep ∧ (s.launch ds endsSweep).driver = s.driver ∧
    (s.launch ds endsSweep).monitor = s.monitor ∧ (s.launch ds endsSweep).arb = s.arb ∧
    (s.launch ds endsSweep).due = s.due ∧ (s.launch ds endsSweep).role = s.role ∧
    (s.launch ds endsSweep).now = s.now := by
  unfold launch; simp

@[simp] theorem buildFrame_frame (s : State) :
    (s.buildFrame).pending = s.pending ∧ (s.buildFrame).clock = s.clock ∧ (s.buildFrame).resetLow = s.resetLow ∧
    (s.buildFrame).letter = s.letter ∧ (s.buildFrame).busData = s.busData ∧ (s.buildFrame).req = s.req ∧
    (s.buildFrame).cfg = s.cfg ∧ (s.buildFrame).aging = s.aging ∧ (s.buildFrame).pool = s.pool ∧
    (s.buildFrame).port.link = s.port.link ∧ (s.buildFrame).port.carrier = s.port.carrier ∧
    (s.buildFrame).port.expected = s.port.expected ∧ (s.buildFrame).port.heartbeat = s.port.heartbeat ∧
    (s.buildFrame).port.silence = s.port.silence ∧ (s.buildFrame).port.lastEnd = s.port.lastEnd ∧
    (s.buildFrame).port.applying = s.port.applying ∧
    (s.buildFrame).port.tx.sending = s.port.tx.sending ∧ (s.buildFrame).port.tx.hello = s.port.tx.hello ∧
    (s.buildFrame).port.tx.acks = s.port.tx.acks ∧ (s.buildFrame).port.tx.beat = s.port.tx.beat ∧
    (s.buildFrame).port.tx.resend = s.port.tx.resend ∧ (s.buildFrame).port.tx.returned = s.port.tx.returned ∧
    (s.buildFrame).port.tx.outbound = s.port.tx.outbound ∧ (s.buildFrame).hello = s.hello ∧
    (s.buildFrame).driver = s.driver ∧ (s.buildFrame).monitor = s.monitor ∧ (s.buildFrame).arb.role = s.arb.role ∧
    (s.buildFrame).arb.epoch = s.arb.epoch ∧ (s.buildFrame).arb.health = s.arb.health ∧
    (s.buildFrame).arb.hold = s.arb.hold ∧ (s.buildFrame).arb.takeoverTick = s.arb.takeoverTick ∧
    (s.buildFrame).arb.grace = s.arb.grace ∧ (s.buildFrame).arb.listen = s.arb.listen ∧
    (s.buildFrame).arb.healthHold = s.arb.healthHold ∧ (s.buildFrame).arb.yieldTimer = s.arb.yieldTimer ∧
    (s.buildFrame).arb.yieldTaken = s.arb.yieldTaken ∧ (s.buildFrame).arb.peer = s.arb.peer ∧
    (s.buildFrame).due = s.due ∧ (s.buildFrame).role = s.role ∧ (s.buildFrame).now = s.now ∧
    (s.buildFrame).up = s.up := by
  unfold buildFrame; dsimp only; (repeat' split) <;> simp [role, up]

@[simp] theorem retireRecord_frame (s : State) (d : Delta) :
    (s.retireRecord d).pending = s.pending ∧ (s.retireRecord d).clock = s.clock ∧
    (s.retireRecord d).resetLow = s.resetLow ∧ (s.retireRecord d).letter = s.letter ∧
    (s.retireRecord d).busData = s.busData ∧ (s.retireRecord d).req = s.req ∧ (s.retireRecord d).cfg = s.cfg ∧
    (s.retireRecord d).aging = s.aging ∧ (s.retireRecord d).pool = s.pool ∧ (s.retireRecord d).dq.catchup = s.dq.catchup ∧
    (s.retireRecord d).dq.catchupCursor = s.dq.catchupCursor ∧
    (s.retireRecord d).port = s.port ∧ (s.retireRecord d).hello = s.hello ∧ (s.retireRecord d).sweep = s.sweep ∧
    (s.retireRecord d).driver = s.driver ∧ (s.retireRecord d).monitor = s.monitor ∧ (s.retireRecord d).arb = s.arb ∧
    (s.retireRecord d).due = s.due ∧ (s.retireRecord d).role = s.role ∧ (s.retireRecord d).now = s.now ∧
    (s.retireRecord d).up = s.up := by
  unfold retireRecord; dsimp only; (repeat' split) <;> simp [role, up]

@[simp] theorem completeSweep_frame (s : State) :
    (s.completeSweep).pending = s.pending ∧ (s.completeSweep).clock = s.clock ∧
    (s.completeSweep).resetLow = s.resetLow ∧ (s.completeSweep).letter = s.letter ∧
    (s.completeSweep).busData = s.busData ∧ (s.completeSweep).req.queue = s.req.queue ∧
    (s.completeSweep).req.completions = s.req.completions ∧ (s.completeSweep).req.running = s.req.running ∧
    (s.completeSweep).req.assembling = s.req.assembling ∧ (s.completeSweep).req.readPos = s.req.readPos ∧
    (s.completeSweep).req.enable = s.req.enable ∧ (s.completeSweep).req.drops = s.req.drops ∧
    (s.completeSweep).req.counters = s.req.counters ∧ (s.completeSweep).cfg = s.cfg ∧
    (s.completeSweep).table = s.table ∧ (s.completeSweep).aging = s.aging ∧ (s.completeSweep).pool = s.pool ∧
    (s.completeSweep).dq = s.dq ∧ (s.completeSweep).port = s.port ∧ (s.completeSweep).hello = s.hello ∧
    (s.completeSweep).sweep.cursor = s.sweep.cursor ∧ (s.completeSweep).sweep.scanCount = s.sweep.scanCount ∧
    (s.completeSweep).driver = s.driver ∧ (s.completeSweep).monitor = s.monitor ∧ (s.completeSweep).arb = s.arb ∧
    (s.completeSweep).due = s.due ∧ (s.completeSweep).role = s.role ∧ (s.completeSweep).now = s.now ∧
    (s.completeSweep).up = s.up := by
  simp [completeSweep, role, up]

@[simp] theorem retireRecords_frame (s : State) (l : List Delta) :
    (l.foldl (fun s d => (s.retireRecord d).startCatchup) s).pending = s.pending ∧
    (l.foldl (fun s d => (s.retireRecord d).startCatchup) s).clock = s.clock ∧
    (l.foldl (fun s d => (s.retireRecord d).startCatchup) s).resetLow = s.resetLow ∧
    (l.foldl (fun s d => (s.retireRecord d).startCatchup) s).letter = s.letter ∧
    (l.foldl (fun s d => (s.retireRecord d).startCatchup) s).busData = s.busData ∧
    (l.foldl (fun s d => (s.retireRecord d).startCatchup) s).req = s.req ∧ (l.foldl (fun s d => (s.retireRecord d).startCatchup) s).cfg = s.cfg ∧
    (l.foldl (fun s d => (s.retireRecord d).startCatchup) s).aging = s.aging ∧
    (l.foldl (fun s d => (s.retireRecord d).startCatchup) s).pool = s.pool ∧
    (l.foldl (fun s d => (s.retireRecord d).startCatchup) s).port = s.port ∧
    (l.foldl (fun s d => (s.retireRecord d).startCatchup) s).hello = s.hello ∧
    (l.foldl (fun s d => (s.retireRecord d).startCatchup) s).sweep = s.sweep ∧
    (l.foldl (fun s d => (s.retireRecord d).startCatchup) s).driver = s.driver ∧
    (l.foldl (fun s d => (s.retireRecord d).startCatchup) s).monitor = s.monitor ∧
    (l.foldl (fun s d => (s.retireRecord d).startCatchup) s).arb = s.arb ∧ (l.foldl (fun s d => (s.retireRecord d).startCatchup) s).due = s.due ∧
    (l.foldl (fun s d => (s.retireRecord d).startCatchup) s).role = s.role ∧
    (l.foldl (fun s d => (s.retireRecord d).startCatchup) s).now = s.now ∧
    (l.foldl (fun s d => (s.retireRecord d).startCatchup) s).up = s.up := by
  induction l generalizing s with | nil => simp | cons d l ih => simp [ih]

@[simp] theorem retireFrame_frame (s : State) (f : InFlight) :
    (s.retireFrame f).pending = s.pending ∧ (s.retireFrame f).clock = s.clock ∧
    (s.retireFrame f).resetLow = s.resetLow ∧ (s.retireFrame f).letter = s.letter ∧
    (s.retireFrame f).busData = s.busData ∧ (s.retireFrame f).req.queue = s.req.queue ∧
    (s.retireFrame f).req.completions = s.req.completions ∧ (s.retireFrame f).req.running = s.req.running ∧
    (s.retireFrame f).req.assembling = s.req.assembling ∧ (s.retireFrame f).req.readPos = s.req.readPos ∧
    (s.retireFrame f).req.enable = s.req.enable ∧ (s.retireFrame f).req.drops = s.req.drops ∧
    (s.retireFrame f).req.counters = s.req.counters ∧ (s.retireFrame f).cfg = s.cfg ∧
    (s.retireFrame f).aging = s.aging ∧ (s.retireFrame f).pool = s.pool ∧
    (s.retireFrame f).port.link = s.port.link ∧ (s.retireFrame f).port.inFlight = s.port.inFlight ∧
    (s.retireFrame f).port.carrier = s.port.carrier ∧ (s.retireFrame f).port.nextSeq = s.port.nextSeq ∧
    (s.retireFrame f).port.expected = s.port.expected ∧ (s.retireFrame f).port.heartbeat = s.port.heartbeat ∧
    (s.retireFrame f).port.silence = s.port.silence ∧ (s.retireFrame f).port.lastEnd = s.port.lastEnd ∧
    (s.retireFrame f).port.applying = s.port.applying ∧
    (s.retireFrame f).port.sweepBegin = s.port.sweepBegin ∧ (s.retireFrame f).port.sweepEnd = s.port.sweepEnd ∧
    (s.retireFrame f).port.yieldMarker = s.port.yieldMarker ∧ (s.retireFrame f).hello = s.hello ∧
    (s.retireFrame f).sweep.cursor = s.sweep.cursor ∧ (s.retireFrame f).sweep.scanCount = s.sweep.scanCount ∧
    (s.retireFrame f).driver = s.driver ∧ (s.retireFrame f).monitor = s.monitor ∧ (s.retireFrame f).arb = s.arb ∧
    (s.retireFrame f).due = s.due ∧ (s.retireFrame f).role = s.role ∧ (s.retireFrame f).now = s.now ∧
    (s.retireFrame f).up = s.up := by
  unfold retireFrame; split <;> simp [role, up]

@[simp] theorem retireFrames_frame (s : State) (l : List InFlight) :
    (l.foldl (fun s f => s.retireFrame f) s).pending = s.pending ∧
    (l.foldl (fun s f => s.retireFrame f) s).clock = s.clock ∧
    (l.foldl (fun s f => s.retireFrame f) s).resetLow = s.resetLow ∧
    (l.foldl (fun s f => s.retireFrame f) s).letter = s.letter ∧
    (l.foldl (fun s f => s.retireFrame f) s).busData = s.busData ∧
    (l.foldl (fun s f => s.retireFrame f) s).req.queue = s.req.queue ∧
    (l.foldl (fun s f => s.retireFrame f) s).req.completions = s.req.completions ∧
    (l.foldl (fun s f => s.retireFrame f) s).req.running = s.req.running ∧
    (l.foldl (fun s f => s.retireFrame f) s).req.assembling = s.req.assembling ∧
    (l.foldl (fun s f => s.retireFrame f) s).req.readPos = s.req.readPos ∧
    (l.foldl (fun s f => s.retireFrame f) s).req.enable = s.req.enable ∧
    (l.foldl (fun s f => s.retireFrame f) s).req.drops = s.req.drops ∧
    (l.foldl (fun s f => s.retireFrame f) s).req.counters = s.req.counters ∧
    (l.foldl (fun s f => s.retireFrame f) s).cfg = s.cfg ∧ (l.foldl (fun s f => s.retireFrame f) s).aging = s.aging ∧
    (l.foldl (fun s f => s.retireFrame f) s).pool = s.pool ∧
    (l.foldl (fun s f => s.retireFrame f) s).port.link = s.port.link ∧
    (l.foldl (fun s f => s.retireFrame f) s).port.inFlight = s.port.inFlight ∧
    (l.foldl (fun s f => s.retireFrame f) s).port.carrier = s.port.carrier ∧
    (l.foldl (fun s f => s.retireFrame f) s).port.nextSeq = s.port.nextSeq ∧
    (l.foldl (fun s f => s.retireFrame f) s).port.expected = s.port.expected ∧
    (l.foldl (fun s f => s.retireFrame f) s).port.heartbeat = s.port.heartbeat ∧
    (l.foldl (fun s f => s.retireFrame f) s).port.silence = s.port.silence ∧
    (l.foldl (fun s f => s.retireFrame f) s).port.lastEnd = s.port.lastEnd ∧
    (l.foldl (fun s f => s.retireFrame f) s).port.applying = s.port.applying ∧
    (l.foldl (fun s f => s.retireFrame f) s).port.sweepBegin = s.port.sweepBegin ∧
    (l.foldl (fun s f => s.retireFrame f) s).port.sweepEnd = s.port.sweepEnd ∧
    (l.foldl (fun s f => s.retireFrame f) s).port.yieldMarker = s.port.yieldMarker ∧
    (l.foldl (fun s f => s.retireFrame f) s).hello = s.hello ∧
    (l.foldl (fun s f => s.retireFrame f) s).sweep.cursor = s.sweep.cursor ∧
    (l.foldl (fun s f => s.retireFrame f) s).sweep.scanCount = s.sweep.scanCount ∧
    (l.foldl (fun s f => s.retireFrame f) s).driver = s.driver ∧
    (l.foldl (fun s f => s.retireFrame f) s).monitor = s.monitor ∧
    (l.foldl (fun s f => s.retireFrame f) s).arb = s.arb ∧ (l.foldl (fun s f => s.retireFrame f) s).due = s.due ∧
    (l.foldl (fun s f => s.retireFrame f) s).role = s.role ∧ (l.foldl (fun s f => s.retireFrame f) s).now = s.now ∧
    (l.foldl (fun s f => s.retireFrame f) s).up = s.up := by
  induction l generalizing s with | nil => simp | cons d l ih => simp [ih]

@[simp] theorem takeAck_frame (s : State) (n : Byte) :
    (s.takeAck n).pending = s.pending ∧ (s.takeAck n).clock = s.clock ∧ (s.takeAck n).resetLow = s.resetLow ∧
    (s.takeAck n).letter = s.letter ∧ (s.takeAck n).busData = s.busData ∧ (s.takeAck n).req.queue = s.req.queue ∧
    (s.takeAck n).req.completions = s.req.completions ∧ (s.takeAck n).req.running = s.req.running ∧
    (s.takeAck n).req.assembling = s.req.assembling ∧ (s.takeAck n).req.readPos = s.req.readPos ∧
    (s.takeAck n).req.enable = s.req.enable ∧ (s.takeAck n).req.drops = s.req.drops ∧
    (s.takeAck n).req.counters = s.req.counters ∧ (s.takeAck n).cfg = s.cfg ∧ (s.takeAck n).aging = s.aging ∧
    (s.takeAck n).pool = s.pool ∧ (s.takeAck n).port.link = s.port.link ∧
    (s.takeAck n).port.carrier = s.port.carrier ∧ (s.takeAck n).port.nextSeq = s.port.nextSeq ∧
    (s.takeAck n).port.expected = s.port.expected ∧ (s.takeAck n).port.heartbeat = s.port.heartbeat ∧
    (s.takeAck n).port.silence = s.port.silence ∧ (s.takeAck n).port.lastEnd = s.port.lastEnd ∧
    (s.takeAck n).port.applying = s.port.applying ∧
    (s.takeAck n).port.sweepBegin = s.port.sweepBegin ∧ (s.takeAck n).port.sweepEnd = s.port.sweepEnd ∧
    (s.takeAck n).port.yieldMarker = s.port.yieldMarker ∧ (s.takeAck n).hello = s.hello ∧
    (s.takeAck n).sweep.cursor = s.sweep.cursor ∧ (s.takeAck n).sweep.scanCount = s.sweep.scanCount ∧
    (s.takeAck n).driver = s.driver ∧ (s.takeAck n).monitor = s.monitor ∧ (s.takeAck n).arb = s.arb ∧
    (s.takeAck n).due = s.due ∧ (s.takeAck n).role = s.role ∧ (s.takeAck n).now = s.now ∧
    (s.takeAck n).up = s.up := by
  simp [takeAck, role, up]

@[simp] theorem applySweepBegin_frame (s : State) :
    (s.applySweepBegin).pending = s.pending ∧ (s.applySweepBegin).clock = s.clock ∧
    (s.applySweepBegin).resetLow = s.resetLow ∧ (s.applySweepBegin).letter = s.letter ∧
    (s.applySweepBegin).busData = s.busData ∧ (s.applySweepBegin).req.queue = s.req.queue ∧
    (s.applySweepBegin).req.completions = s.req.completions ∧ (s.applySweepBegin).req.running = s.req.running ∧
    (s.applySweepBegin).req.assembling = s.req.assembling ∧ (s.applySweepBegin).req.readPos = s.req.readPos ∧
    (s.applySweepBegin).req.enable = s.req.enable ∧ (s.applySweepBegin).req.drops = s.req.drops ∧
    (s.applySweepBegin).req.counters = s.req.counters ∧ (s.applySweepBegin).cfg = s.cfg ∧
    (s.applySweepBegin).aging = s.aging ∧ (s.applySweepBegin).pool.laneMode = s.pool.laneMode ∧
    (s.applySweepBegin).pool.addrCount = s.pool.addrCount ∧
    (s.applySweepBegin).pool.staticBlocks = s.pool.staticBlocks ∧
    (s.applySweepBegin).dq.catchupCursor = s.dq.catchupCursor ∧ (s.applySweepBegin).port.link = s.port.link ∧
    (s.applySweepBegin).port.carrier = s.port.carrier ∧ (s.applySweepBegin).port.nextSeq = s.port.nextSeq ∧
    (s.applySweepBegin).port.expected = s.port.expected ∧ (s.applySweepBegin).port.silence = s.port.silence ∧
    (s.applySweepBegin).port.lastEnd = s.port.lastEnd ∧
    (s.applySweepBegin).port.applying = s.port.applying ∧ (s.applySweepBegin).hello.ackExchange = s.hello.ackExchange ∧
    (s.applySweepBegin).hello.refusal = s.hello.refusal ∧ (s.applySweepBegin).sweep.cursor = s.sweep.cursor ∧
    (s.applySweepBegin).sweep.scanCount = s.sweep.scanCount ∧ (s.applySweepBegin).monitor = s.monitor ∧
    (s.applySweepBegin).arb.epoch = s.arb.epoch ∧ (s.applySweepBegin).arb.health = s.arb.health ∧
    (s.applySweepBegin).arb.hold = s.arb.hold ∧ (s.applySweepBegin).arb.takeoverTick = s.arb.takeoverTick ∧
    (s.applySweepBegin).arb.grace = s.arb.grace ∧ (s.applySweepBegin).arb.listen = s.arb.listen ∧
    (s.applySweepBegin).arb.yieldTaken = s.arb.yieldTaken ∧ (s.applySweepBegin).arb.peer = s.arb.peer ∧
    (s.applySweepBegin).due = s.due ∧ (s.applySweepBegin).now = s.now ∧ (s.applySweepBegin).up = s.up := by
  unfold applySweepBegin; (repeat' split) <;> simp [up]

@[simp] theorem applySweepEnd_frame (s : State) :
    (s.applySweepEnd).pending = s.pending ∧ (s.applySweepEnd).clock = s.clock ∧
    (s.applySweepEnd).resetLow = s.resetLow ∧ (s.applySweepEnd).letter = s.letter ∧
    (s.applySweepEnd).busData = s.busData ∧ (s.applySweepEnd).req.queue = s.req.queue ∧
    (s.applySweepEnd).req.completions = s.req.completions ∧ (s.applySweepEnd).req.running = s.req.running ∧
    (s.applySweepEnd).req.assembling = s.req.assembling ∧ (s.applySweepEnd).req.readPos = s.req.readPos ∧
    (s.applySweepEnd).req.enable = s.req.enable ∧ (s.applySweepEnd).req.drops = s.req.drops ∧
    (s.applySweepEnd).req.counters = s.req.counters ∧ (s.applySweepEnd).cfg = s.cfg ∧
    (s.applySweepEnd).table = s.table ∧ (s.applySweepEnd).aging = s.aging ∧ (s.applySweepEnd).pool = s.pool ∧
    (s.applySweepEnd).dq = s.dq ∧ (s.applySweepEnd).port.link = s.port.link ∧
    (s.applySweepEnd).port.inFlight = s.port.inFlight ∧ (s.applySweepEnd).port.carrier = s.port.carrier ∧
    (s.applySweepEnd).port.nextSeq = s.port.nextSeq ∧ (s.applySweepEnd).port.expected = s.port.expected ∧
    (s.applySweepEnd).port.silence = s.port.silence ∧ (s.applySweepEnd).port.lastEnd = s.port.lastEnd ∧
    (s.applySweepEnd).port.applying = s.port.applying ∧
    (s.applySweepEnd).port.sweepBegin = s.port.sweepBegin ∧ (s.applySweepEnd).port.sweepEnd = s.port.sweepEnd ∧
    (s.applySweepEnd).hello.ackExchange = s.hello.ackExchange ∧ (s.applySweepEnd).hello.refusal = s.hello.refusal ∧
    (s.applySweepEnd).sweep = s.sweep ∧ (s.applySweepEnd).monitor = s.monitor ∧
    (s.applySweepEnd).arb.epoch = s.arb.epoch ∧ (s.applySweepEnd).arb.health = s.arb.health ∧
    (s.applySweepEnd).arb.hold = s.arb.hold ∧ (s.applySweepEnd).arb.takeoverTick = s.arb.takeoverTick ∧
    (s.applySweepEnd).arb.grace = s.arb.grace ∧ (s.applySweepEnd).arb.listen = s.arb.listen ∧
    (s.applySweepEnd).arb.healthHold = s.arb.healthHold ∧ (s.applySweepEnd).arb.yieldTaken = s.arb.yieldTaken ∧
    (s.applySweepEnd).arb.peer = s.arb.peer ∧ (s.applySweepEnd).due = s.due ∧ (s.applySweepEnd).now = s.now ∧
    (s.applySweepEnd).up = s.up := by
  unfold applySweepEnd; split <;> simp

@[simp] theorem applyYield_frame (s : State) :
    (s.applyYield).pending = s.pending ∧ (s.applyYield).clock = s.clock ∧ (s.applyYield).resetLow = s.resetLow ∧
    (s.applyYield).letter = s.letter ∧ (s.applyYield).busData = s.busData ∧ (s.applyYield).req.queue = s.req.queue ∧
    (s.applyYield).req.completions = s.req.completions ∧ (s.applyYield).req.running = s.req.running ∧
    (s.applyYield).req.assembling = s.req.assembling ∧ (s.applyYield).req.readPos = s.req.readPos ∧
    (s.applyYield).req.enable = s.req.enable ∧ (s.applyYield).req.drops = s.req.drops ∧
    (s.applyYield).req.counters = s.req.counters ∧ (s.applyYield).cfg = s.cfg ∧ (s.applyYield).table = s.table ∧
    (s.applyYield).aging = s.aging ∧ (s.applyYield).pool.quarantine = s.pool.quarantine ∧
    (s.applyYield).pool.bound = s.pool.bound ∧ (s.applyYield).pool.addrCount = s.pool.addrCount ∧
    (s.applyYield).pool.staticBlocks = s.pool.staticBlocks ∧ (s.applyYield).pool.cursors = s.pool.cursors ∧
    (s.applyYield).dq = s.dq ∧ (s.applyYield).port.link = s.port.link ∧
    (s.applyYield).port.inFlight = s.port.inFlight ∧ (s.applyYield).port.carrier = s.port.carrier ∧
    (s.applyYield).port.nextSeq = s.port.nextSeq ∧ (s.applyYield).port.expected = s.port.expected ∧
    (s.applyYield).port.silence = s.port.silence ∧ (s.applyYield).port.lastEnd = s.port.lastEnd ∧
    (s.applyYield).port.applying = s.port.applying ∧
    (s.applyYield).port.sweepBegin = s.port.sweepBegin ∧ (s.applyYield).port.sweepEnd = s.port.sweepEnd ∧
    (s.applyYield).hello.ackExchange = s.hello.ackExchange ∧ (s.applyYield).hello.refusal = s.hello.refusal ∧
    (s.applyYield).sweep = s.sweep ∧ (s.applyYield).monitor = s.monitor ∧ (s.applyYield).arb.health = s.arb.health ∧
    (s.applyYield).arb.hold = s.arb.hold ∧ (s.applyYield).arb.peer = s.arb.peer ∧ (s.applyYield).due = s.due ∧
    (s.applyYield).now = s.now ∧ (s.applyYield).up = s.up := by
  unfold applyYield; split <;> simp

@[simp] theorem applyDelta_frame (s : State) (d : Delta) :
    (s.applyDelta d).pending = s.pending ∧ (s.applyDelta d).clock = s.clock ∧
    (s.applyDelta d).resetLow = s.resetLow ∧ (s.applyDelta d).letter = s.letter ∧
    (s.applyDelta d).busData = s.busData ∧ (s.applyDelta d).req.queue = s.req.queue ∧
    (s.applyDelta d).req.completions = s.req.completions ∧ (s.applyDelta d).req.running = s.req.running ∧
    (s.applyDelta d).req.assembling = s.req.assembling ∧ (s.applyDelta d).req.readPos = s.req.readPos ∧
    (s.applyDelta d).req.enable = s.req.enable ∧ (s.applyDelta d).req.drops = s.req.drops ∧
    (s.applyDelta d).cfg = s.cfg ∧ (s.applyDelta d).aging = s.aging ∧
    (s.applyDelta d).pool.addrCount = s.pool.addrCount ∧ (s.applyDelta d).pool.staticBlocks = s.pool.staticBlocks ∧
    (s.applyDelta d).dq.catchupCursor = s.dq.catchupCursor ∧ (s.applyDelta d).port.link = s.port.link ∧
    (s.applyDelta d).port.carrier = s.port.carrier ∧ (s.applyDelta d).port.nextSeq = s.port.nextSeq ∧
    (s.applyDelta d).port.expected = s.port.expected ∧ (s.applyDelta d).port.silence = s.port.silence ∧
    (s.applyDelta d).port.lastEnd = s.port.lastEnd ∧
    (s.applyDelta d).port.applying = s.port.applying ∧ (s.applyDelta d).hello.ackExchange = s.hello.ackExchange ∧
    (s.applyDelta d).hello.refusal = s.hello.refusal ∧ (s.applyDelta d).sweep.cursor = s.sweep.cursor ∧
    (s.applyDelta d).sweep.scanCount = s.sweep.scanCount ∧ (s.applyDelta d).monitor = s.monitor ∧
    (s.applyDelta d).arb.health = s.arb.health ∧ (s.applyDelta d).arb.hold = s.arb.hold ∧
    (s.applyDelta d).arb.peer = s.arb.peer ∧ (s.applyDelta d).due = s.due ∧ (s.applyDelta d).now = s.now ∧
    (s.applyDelta d).up = s.up := by
  unfold applyDelta; split <;> simp

@[simp] theorem putAck_frame (s : State) :
    (s.putAck).pending = s.pending ∧ (s.putAck).clock = s.clock ∧ (s.putAck).resetLow = s.resetLow ∧
    (s.putAck).letter = s.letter ∧ (s.putAck).busData = s.busData ∧ (s.putAck).req = s.req ∧ (s.putAck).cfg = s.cfg ∧
    (s.putAck).table = s.table ∧ (s.putAck).aging = s.aging ∧ (s.putAck).pool = s.pool ∧ (s.putAck).dq = s.dq ∧
    (s.putAck).port.link = s.port.link ∧ (s.putAck).port.inFlight = s.port.inFlight ∧
    (s.putAck).port.carrier = s.port.carrier ∧ (s.putAck).port.nextSeq = s.port.nextSeq ∧
    (s.putAck).port.expected = s.port.expected ∧ (s.putAck).port.heartbeat = s.port.heartbeat ∧
    (s.putAck).port.silence = s.port.silence ∧ (s.putAck).port.lastEnd = s.port.lastEnd ∧
    (s.putAck).port.applying = s.port.applying ∧
    (s.putAck).port.sweepBegin = s.port.sweepBegin ∧ (s.putAck).port.sweepEnd = s.port.sweepEnd ∧
    (s.putAck).port.yieldMarker = s.port.yieldMarker ∧ (s.putAck).hello = s.hello ∧ (s.putAck).sweep = s.sweep ∧
    (s.putAck).driver = s.driver ∧ (s.putAck).monitor = s.monitor ∧ (s.putAck).arb = s.arb ∧ (s.putAck).due = s.due ∧
    (s.putAck).role = s.role ∧ (s.putAck).now = s.now ∧ (s.putAck).up = s.up := by
  simp [putAck, role, up]

/-! ### A DELTA frame in progress (R109, R112) -/

@[simp] theorem acceptFrame_frame (s : State) :
    (s.acceptFrame).pending = s.pending ∧ (s.acceptFrame).clock = s.clock ∧ (s.acceptFrame).resetLow = s.resetLow ∧
    (s.acceptFrame).letter = s.letter ∧ (s.acceptFrame).busData = s.busData ∧
    (s.acceptFrame).req.queue = s.req.queue ∧ (s.acceptFrame).req.completions = s.req.completions ∧
    (s.acceptFrame).req.running = s.req.running ∧ (s.acceptFrame).req.assembling = s.req.assembling ∧
    (s.acceptFrame).req.readPos = s.req.readPos ∧ (s.acceptFrame).req.enable = s.req.enable ∧
    (s.acceptFrame).req.drops = s.req.drops ∧ (s.acceptFrame).cfg = s.cfg ∧ (s.acceptFrame).aging = s.aging ∧
    (s.acceptFrame).pool.addrCount = s.pool.addrCount ∧ (s.acceptFrame).pool.staticBlocks = s.pool.staticBlocks ∧
    (s.acceptFrame).port.link = s.port.link ∧ (s.acceptFrame).port.carrier = s.port.carrier ∧
    (s.acceptFrame).port.nextSeq = s.port.nextSeq ∧ (s.acceptFrame).port.silence = s.port.silence ∧
    (s.acceptFrame).port.lastEnd = s.port.lastEnd ∧ (s.acceptFrame).port.applying = s.port.applying ∧
    (s.acceptFrame).hello.ackExchange = s.hello.ackExchange ∧ (s.acceptFrame).hello.refusal = s.hello.refusal ∧
    (s.acceptFrame).sweep.cursor = s.sweep.cursor ∧ (s.acceptFrame).sweep.scanCount = s.sweep.scanCount ∧
    (s.acceptFrame).monitor = s.monitor ∧ (s.acceptFrame).arb.health = s.arb.health ∧
    (s.acceptFrame).arb.hold = s.arb.hold ∧ (s.acceptFrame).arb.peer = s.arb.peer ∧ (s.acceptFrame).due = s.due ∧
    (s.acceptFrame).now = s.now ∧ (s.acceptFrame).up = s.up := by
  simp [acceptFrame, up]

@[simp] theorem applyNext_frame (s : State) :
    (s.applyNext).pending = s.pending ∧ (s.applyNext).clock = s.clock ∧ (s.applyNext).resetLow = s.resetLow ∧
    (s.applyNext).letter = s.letter ∧ (s.applyNext).busData = s.busData ∧ (s.applyNext).req.queue = s.req.queue ∧
    (s.applyNext).req.completions = s.req.completions ∧ (s.applyNext).req.running = s.req.running ∧
    (s.applyNext).req.assembling = s.req.assembling ∧ (s.applyNext).req.readPos = s.req.readPos ∧
    (s.applyNext).req.enable = s.req.enable ∧ (s.applyNext).req.drops = s.req.drops ∧ (s.applyNext).cfg = s.cfg ∧
    (s.applyNext).aging = s.aging ∧ (s.applyNext).pool.addrCount = s.pool.addrCount ∧
    (s.applyNext).pool.staticBlocks = s.pool.staticBlocks ∧ (s.applyNext).port.link = s.port.link ∧
    (s.applyNext).port.carrier = s.port.carrier ∧ (s.applyNext).port.nextSeq = s.port.nextSeq ∧
    (s.applyNext).port.silence = s.port.silence ∧ (s.applyNext).port.lastEnd = s.port.lastEnd ∧
    (s.applyNext).hello.ackExchange = s.hello.ackExchange ∧ (s.applyNext).hello.refusal = s.hello.refusal ∧
    (s.applyNext).sweep.cursor = s.sweep.cursor ∧ (s.applyNext).sweep.scanCount = s.sweep.scanCount ∧
    (s.applyNext).monitor = s.monitor ∧ (s.applyNext).arb.health = s.arb.health ∧
    (s.applyNext).arb.hold = s.arb.hold ∧ (s.applyNext).arb.peer = s.arb.peer ∧ (s.applyNext).due = s.due ∧
    (s.applyNext).now = s.now ∧ (s.applyNext).up = s.up := by
  unfold applyNext; split
  · simp
  · dsimp only; split <;> simp [up]

/-- R112: each application takes one record from those that wait. -/
@[simp] theorem applyNext_applying (s : State) : s.applyNext.port.applying = s.port.applying.tail := by
  unfold applyNext
  split
  · next h => simp [h]
  · next h => dsimp only; split <;> simp [h]

@[simp] theorem idle_frame (s : State) :
    (s.idle).pending = s.pending ∧ (s.idle).clock = s.clock ∧ (s.idle).resetLow = s.resetLow ∧
    (s.idle).letter = s.letter ∧ (s.idle).busData = s.busData ∧ (s.idle).req.queue = s.req.queue ∧
    (s.idle).req.completions = s.req.completions ∧ (s.idle).req.running = s.req.running ∧
    (s.idle).req.assembling = s.req.assembling ∧ (s.idle).req.readPos = s.req.readPos ∧
    (s.idle).req.enable = s.req.enable ∧ (s.idle).req.drops = s.req.drops ∧ (s.idle).cfg = s.cfg ∧
    (s.idle).aging = s.aging ∧ (s.idle).pool.addrCount = s.pool.addrCount ∧
    (s.idle).pool.staticBlocks = s.pool.staticBlocks ∧ (s.idle).port.link = s.port.link ∧
    (s.idle).port.carrier = s.port.carrier ∧ (s.idle).port.nextSeq = s.port.nextSeq ∧
    (s.idle).port.silence = s.port.silence ∧ (s.idle).port.lastEnd = s.port.lastEnd ∧
    (s.idle).hello.ackExchange = s.hello.ackExchange ∧ (s.idle).hello.refusal = s.hello.refusal ∧
    (s.idle).sweep.cursor = s.sweep.cursor ∧ (s.idle).sweep.scanCount = s.sweep.scanCount ∧
    (s.idle).monitor = s.monitor ∧ (s.idle).arb.health = s.arb.health ∧ (s.idle).arb.hold = s.arb.hold ∧
    (s.idle).arb.peer = s.arb.peer ∧ (s.idle).due = s.due ∧ (s.idle).now = s.now ∧ (s.idle).up = s.up := by
  unfold idle; split <;> simp

/-- R112: without a frame in progress an idle step changes nothing, and none is to be finished. -/
@[simp] theorem idle_of_nil {s : State} (h : s.port.applying = []) : s.idle = s := by simp [idle, h]

@[simp] theorem frameFinished_of_nil {s : State} (h : s.port.applying = []) : s.frameFinished = s := by simp [frameFinished, h]

/-- R97: a part without a relation applies nothing. -/
theorem idle_of_down {s : State} (h : s.up = false) : s.idle = s := by simp [idle, h]

/-- R112: an idle step with a frame in progress applies the next record. -/
theorem idle_applying (s : State) : s.idle.port.applying =
    if s.resetLow = false ∧ s.up = true then s.port.applying.tail else s.port.applying := by
  by_cases hn : s.port.applying = []
  · simp [hn]
  · unfold idle
    by_cases h : s.resetLow = false ∧ s.up = true <;> simp [h, hn]

@[simp] theorem idles_frame (s : State) (l : List Delta) :
    (l.foldl (fun t _ => t.idle) s).pending = s.pending ∧ (l.foldl (fun t _ => t.idle) s).clock = s.clock ∧
    (l.foldl (fun t _ => t.idle) s).resetLow = s.resetLow ∧ (l.foldl (fun t _ => t.idle) s).letter = s.letter ∧
    (l.foldl (fun t _ => t.idle) s).busData = s.busData ∧ (l.foldl (fun t _ => t.idle) s).req.queue = s.req.queue ∧
    (l.foldl (fun t _ => t.idle) s).req.completions = s.req.completions ∧
    (l.foldl (fun t _ => t.idle) s).req.running = s.req.running ∧
    (l.foldl (fun t _ => t.idle) s).req.assembling = s.req.assembling ∧
    (l.foldl (fun t _ => t.idle) s).req.readPos = s.req.readPos ∧
    (l.foldl (fun t _ => t.idle) s).req.enable = s.req.enable ∧
    (l.foldl (fun t _ => t.idle) s).req.drops = s.req.drops ∧ (l.foldl (fun t _ => t.idle) s).cfg = s.cfg ∧
    (l.foldl (fun t _ => t.idle) s).aging = s.aging ∧
    (l.foldl (fun t _ => t.idle) s).pool.addrCount = s.pool.addrCount ∧
    (l.foldl (fun t _ => t.idle) s).pool.staticBlocks = s.pool.staticBlocks ∧
    (l.foldl (fun t _ => t.idle) s).port.link = s.port.link ∧
    (l.foldl (fun t _ => t.idle) s).port.carrier = s.port.carrier ∧
    (l.foldl (fun t _ => t.idle) s).port.nextSeq = s.port.nextSeq ∧
    (l.foldl (fun t _ => t.idle) s).port.silence = s.port.silence ∧
    (l.foldl (fun t _ => t.idle) s).port.lastEnd = s.port.lastEnd ∧
    (l.foldl (fun t _ => t.idle) s).hello.ackExchange = s.hello.ackExchange ∧
    (l.foldl (fun t _ => t.idle) s).hello.refusal = s.hello.refusal ∧
    (l.foldl (fun t _ => t.idle) s).sweep.cursor = s.sweep.cursor ∧
    (l.foldl (fun t _ => t.idle) s).sweep.scanCount = s.sweep.scanCount ∧
    (l.foldl (fun t _ => t.idle) s).monitor = s.monitor ∧ (l.foldl (fun t _ => t.idle) s).arb.health = s.arb.health ∧
    (l.foldl (fun t _ => t.idle) s).arb.hold = s.arb.hold ∧ (l.foldl (fun t _ => t.idle) s).arb.peer = s.arb.peer ∧
    (l.foldl (fun t _ => t.idle) s).due = s.due ∧ (l.foldl (fun t _ => t.idle) s).now = s.now ∧
    (l.foldl (fun t _ => t.idle) s).up = s.up := by
  induction l generalizing s with | nil => simp | cons d l ih => simp [ih]

@[simp] theorem frameFinished_frame (s : State) :
    (s.frameFinished).pending = s.pending ∧ (s.frameFinished).clock = s.clock ∧
    (s.frameFinished).resetLow = s.resetLow ∧ (s.frameFinished).letter = s.letter ∧
    (s.frameFinished).busData = s.busData ∧ (s.frameFinished).req.queue = s.req.queue ∧
    (s.frameFinished).req.completions = s.req.completions ∧ (s.frameFinished).req.running = s.req.running ∧
    (s.frameFinished).req.assembling = s.req.assembling ∧ (s.frameFinished).req.readPos = s.req.readPos ∧
    (s.frameFinished).req.enable = s.req.enable ∧ (s.frameFinished).req.drops = s.req.drops ∧
    (s.frameFinished).cfg = s.cfg ∧ (s.frameFinished).aging = s.aging ∧
    (s.frameFinished).pool.addrCount = s.pool.addrCount ∧ (s.frameFinished).pool.staticBlocks = s.pool.staticBlocks ∧
    (s.frameFinished).port.link = s.port.link ∧ (s.frameFinished).port.carrier = s.port.carrier ∧
    (s.frameFinished).port.nextSeq = s.port.nextSeq ∧ (s.frameFinished).port.silence = s.port.silence ∧
    (s.frameFinished).port.lastEnd = s.port.lastEnd ∧ (s.frameFinished).hello.ackExchange = s.hello.ackExchange ∧
    (s.frameFinished).hello.refusal = s.hello.refusal ∧ (s.frameFinished).sweep.cursor = s.sweep.cursor ∧
    (s.frameFinished).sweep.scanCount = s.sweep.scanCount ∧ (s.frameFinished).monitor = s.monitor ∧
    (s.frameFinished).arb.health = s.arb.health ∧ (s.frameFinished).arb.hold = s.arb.hold ∧
    (s.frameFinished).arb.peer = s.arb.peer ∧ (s.frameFinished).due = s.due ∧ (s.frameFinished).now = s.now ∧
    (s.frameFinished).up = s.up := by
  unfold frameFinished; simp

/-- R112: to finish a frame is to apply its next record and to finish what is left. -/
theorem frameFinished_idle {s : State} (hr : s.resetLow = false) (hu : s.up = true) : s.idle.frameFinished = s.frameFinished := by
  cases h : s.port.applying with
  | nil => rw [idle_of_nil h]
  | cons d rest =>
    have hi : s.idle.port.applying = rest := by rw [idle_applying]; simp [hr, hu, h]
    simp only [frameFinished, hi, h, List.foldl_cons]

@[simp] theorem receiveDelta_frame (s : State) (seq : Byte) (ds : List Delta) :
    (s.receiveDelta seq ds).pending = s.pending ∧ (s.receiveDelta seq ds).clock = s.clock ∧
    (s.receiveDelta seq ds).resetLow = s.resetLow ∧ (s.receiveDelta seq ds).letter = s.letter ∧
    (s.receiveDelta seq ds).busData = s.busData ∧ (s.receiveDelta seq ds).req.queue = s.req.queue ∧
    (s.receiveDelta seq ds).req.completions = s.req.completions ∧
    (s.receiveDelta seq ds).req.running = s.req.running ∧ (s.receiveDelta seq ds).req.assembling = s.req.assembling ∧
    (s.receiveDelta seq ds).req.readPos = s.req.readPos ∧ (s.receiveDelta seq ds).req.enable = s.req.enable ∧
    (s.receiveDelta seq ds).req.drops = s.req.drops ∧ (s.receiveDelta seq ds).cfg = s.cfg ∧
    (s.receiveDelta seq ds).aging = s.aging ∧ (s.receiveDelta seq ds).pool.addrCount = s.pool.addrCount ∧
    (s.receiveDelta seq ds).pool.staticBlocks = s.pool.staticBlocks ∧
    (s.receiveDelta seq ds).port.link = s.port.link ∧ (s.receiveDelta seq ds).port.carrier = s.port.carrier ∧
    (s.receiveDelta seq ds).port.nextSeq = s.port.nextSeq ∧ (s.receiveDelta seq ds).port.lastEnd = s.port.lastEnd ∧
    (s.receiveDelta seq ds).hello.ackExchange = s.hello.ackExchange ∧
    (s.receiveDelta seq ds).hello.refusal = s.hello.refusal ∧ (s.receiveDelta seq ds).sweep.cursor = s.sweep.cursor ∧
    (s.receiveDelta seq ds).sweep.scanCount = s.sweep.scanCount ∧ (s.receiveDelta seq ds).monitor = s.monitor ∧
    (s.receiveDelta seq ds).arb.health = s.arb.health ∧ (s.receiveDelta seq ds).arb.hold = s.arb.hold ∧
    (s.receiveDelta seq ds).arb.peer = s.arb.peer ∧ (s.receiveDelta seq ds).due = s.due ∧
    (s.receiveDelta seq ds).now = s.now := by
  unfold receiveDelta; dsimp only; split <;> simp

end State

end Sys2Proof.Machine
end

