-- ==== Sys2Proof/Laws/FrameEvents.lean ====
section
/-! SUPPORT. What each operation of the time, pair-port, role-line and window families leaves as it was: one lemma per operation, so that no later
proof unfolds one to carry a field across it. -/

namespace Sys2Proof.Machine

namespace State

@[simp] theorem tickArbiter_frame (s : State) :
    (s.tickArbiter).pending = s.pending ∧ (s.tickArbiter).clock = s.clock ∧ (s.tickArbiter).resetLow = s.resetLow ∧
    (s.tickArbiter).letter = s.letter ∧ (s.tickArbiter).busData = s.busData ∧ (s.tickArbiter).req = s.req ∧
    (s.tickArbiter).cfg = s.cfg ∧ (s.tickArbiter).table = s.table ∧ (s.tickArbiter).aging = s.aging ∧
    (s.tickArbiter).pool = s.pool ∧ (s.tickArbiter).dq = s.dq ∧ (s.tickArbiter).port = s.port ∧
    (s.tickArbiter).hello = s.hello ∧ (s.tickArbiter).sweep = s.sweep ∧ (s.tickArbiter).driver = s.driver ∧
    (s.tickArbiter).monitor = s.monitor ∧ (s.tickArbiter).arb.role = s.arb.role ∧
    (s.tickArbiter).arb.epoch = s.arb.epoch ∧ (s.tickArbiter).arb.health = s.arb.health ∧
    (s.tickArbiter).arb.hold = s.arb.hold ∧ (s.tickArbiter).arb.takeoverTick = s.arb.takeoverTick ∧
    (s.tickArbiter).arb.yieldTaken = s.arb.yieldTaken ∧ (s.tickArbiter).arb.yieldHanded = s.arb.yieldHanded ∧
    (s.tickArbiter).arb.peer = s.arb.peer ∧ (s.tickArbiter).due = s.due ∧ (s.tickArbiter).role = s.role ∧
    (s.tickArbiter).now = s.now := by
  simp [tickArbiter, role]

@[simp] theorem tickPort_frame (s : State) :
    (s.tickPort).pending = s.pending ∧ (s.tickPort).clock = s.clock ∧ (s.tickPort).resetLow = s.resetLow ∧
    (s.tickPort).letter = s.letter ∧ (s.tickPort).busData = s.busData ∧ (s.tickPort).req = s.req ∧
    (s.tickPort).cfg = s.cfg ∧ (s.tickPort).table = s.table ∧ (s.tickPort).aging = s.aging ∧
    (s.tickPort).pool = s.pool ∧ (s.tickPort).dq = s.dq ∧ (s.tickPort).port.link = s.port.link ∧
    (s.tickPort).port.inFlight = s.port.inFlight ∧ (s.tickPort).port.carrier = s.port.carrier ∧
    (s.tickPort).port.nextSeq = s.port.nextSeq ∧ (s.tickPort).port.expected = s.port.expected ∧
    (s.tickPort).port.lastEnd = s.port.lastEnd ∧
    (s.tickPort).port.applying = s.port.applying ∧ (s.tickPort).port.sweepBegin = s.port.sweepBegin ∧
    (s.tickPort).port.sweepEnd = s.port.sweepEnd ∧ (s.tickPort).port.yieldMarker = s.port.yieldMarker ∧
    (s.tickPort).port.tx = s.port.tx ∧ (s.tickPort).hello = s.hello ∧ (s.tickPort).sweep = s.sweep ∧
    (s.tickPort).driver = s.driver ∧ (s.tickPort).monitor = s.monitor ∧ (s.tickPort).arb = s.arb ∧
    (s.tickPort).due = s.due ∧ (s.tickPort).role = s.role ∧ (s.tickPort).now = s.now := by
  unfold tickPort; simp

@[simp] theorem compareTimers_frame (s : State) :
    (s.compareTimers).pending = s.pending ∧ (s.compareTimers).clock = s.clock ∧
    (s.compareTimers).resetLow = s.resetLow ∧ (s.compareTimers).letter = s.letter ∧
    (s.compareTimers).busData = s.busData ∧ (s.compareTimers).req = s.req ∧ (s.compareTimers).cfg = s.cfg ∧
    (s.compareTimers).table = s.table ∧ (s.compareTimers).aging = s.aging ∧ (s.compareTimers).pool = s.pool ∧
    (s.compareTimers).dq = s.dq ∧ (s.compareTimers).port = s.port ∧ (s.compareTimers).hello = s.hello ∧
    (s.compareTimers).sweep = s.sweep ∧ (s.compareTimers).driver = s.driver ∧ (s.compareTimers).monitor = s.monitor ∧
    (s.compareTimers).arb = s.arb ∧ (s.compareTimers).role = s.role ∧ (s.compareTimers).now = s.now := by
  unfold compareTimers; simp

@[simp] theorem takeTick_frame (s : State) :
    (s.takeTick).pending = s.pending ∧ (s.takeTick).clock = s.clock ∧ (s.takeTick).resetLow = s.resetLow ∧
    (s.takeTick).letter = s.letter ∧ (s.takeTick).busData = s.busData ∧ (s.takeTick).req = s.req ∧
    (s.takeTick).cfg = s.cfg ∧ (s.takeTick).table = s.table ∧ (s.takeTick).aging.position = s.aging.position ∧
    (s.takeTick).pool = s.pool ∧ (s.takeTick).dq = s.dq ∧ (s.takeTick).port.link = s.port.link ∧
    (s.takeTick).port.inFlight = s.port.inFlight ∧ (s.takeTick).port.carrier = s.port.carrier ∧
    (s.takeTick).port.nextSeq = s.port.nextSeq ∧ (s.takeTick).port.expected = s.port.expected ∧
    (s.takeTick).port.lastEnd = s.port.lastEnd ∧
    (s.takeTick).port.applying = s.port.applying ∧ (s.takeTick).port.sweepBegin = s.port.sweepBegin ∧
    (s.takeTick).port.sweepEnd = s.port.sweepEnd ∧ (s.takeTick).port.yieldMarker = s.port.yieldMarker ∧
    (s.takeTick).port.tx = s.port.tx ∧ (s.takeTick).hello = s.hello ∧ (s.takeTick).sweep = s.sweep ∧
    (s.takeTick).driver = s.driver ∧ (s.takeTick).monitor = s.monitor ∧ (s.takeTick).arb.role = s.arb.role ∧
    (s.takeTick).arb.epoch = s.arb.epoch ∧ (s.takeTick).arb.health = s.arb.health ∧
    (s.takeTick).arb.hold = s.arb.hold ∧ (s.takeTick).arb.takeoverTick = s.arb.takeoverTick ∧
    (s.takeTick).arb.yieldTaken = s.arb.yieldTaken ∧ (s.takeTick).arb.yieldHanded = s.arb.yieldHanded ∧
    (s.takeTick).arb.peer = s.arb.peer ∧ (s.takeTick).role = s.role ∧ (s.takeTick).up = s.up := by
  simp [takeTick, role, up]

@[simp] theorem endMs_frame (s : State) (n : Nat) :
    (s.endMs n).pending = s.pending ∧ (s.endMs n).resetLow = s.resetLow ∧ (s.endMs n).letter = s.letter ∧
    (s.endMs n).busData = s.busData ∧ (s.endMs n).req = s.req ∧ (s.endMs n).cfg = s.cfg ∧
    (s.endMs n).table = s.table ∧ (s.endMs n).aging.position = s.aging.position ∧ (s.endMs n).pool = s.pool ∧
    (s.endMs n).dq = s.dq ∧ (s.endMs n).port.link = s.port.link ∧ (s.endMs n).port.inFlight = s.port.inFlight ∧
    (s.endMs n).port.carrier = s.port.carrier ∧ (s.endMs n).port.nextSeq = s.port.nextSeq ∧
    (s.endMs n).port.expected = s.port.expected ∧ (s.endMs n).port.lastEnd = s.port.lastEnd ∧
    (s.endMs n).port.applying = s.port.applying ∧
    (s.endMs n).port.sweepBegin = s.port.sweepBegin ∧ (s.endMs n).port.sweepEnd = s.port.sweepEnd ∧
    (s.endMs n).port.yieldMarker = s.port.yieldMarker ∧ (s.endMs n).port.tx = s.port.tx ∧
    (s.endMs n).hello = s.hello ∧ (s.endMs n).sweep = s.sweep ∧ (s.endMs n).driver = s.driver ∧
    (s.endMs n).monitor = s.monitor ∧ (s.endMs n).arb.role = s.arb.role ∧ (s.endMs n).arb.epoch = s.arb.epoch ∧
    (s.endMs n).arb.health = s.arb.health ∧ (s.endMs n).arb.hold = s.arb.hold ∧
    (s.endMs n).arb.takeoverTick = s.arb.takeoverTick ∧ (s.endMs n).arb.yieldTaken = s.arb.yieldTaken ∧
    (s.endMs n).arb.yieldHanded = s.arb.yieldHanded ∧ (s.endMs n).arb.peer = s.arb.peer ∧ (s.endMs n).role = s.role ∧
    (s.endMs n).up = s.up := by
  unfold endMs; dsimp only; split <;> simp [role, up]

@[simp] theorem advanceWalker_frame (s : State) :
    (s.advanceWalker).pending = s.pending ∧ (s.advanceWalker).clock = s.clock ∧
    (s.advanceWalker).resetLow = s.resetLow ∧ (s.advanceWalker).letter = s.letter ∧
    (s.advanceWalker).busData = s.busData ∧ (s.advanceWalker).req = s.req ∧ (s.advanceWalker).cfg = s.cfg ∧
    (s.advanceWalker).table = s.table ∧ (s.advanceWalker).aging.ticks = s.aging.ticks ∧
    (s.advanceWalker).aging.msCount = s.aging.msCount ∧ (s.advanceWalker).pool = s.pool ∧
    (s.advanceWalker).dq = s.dq ∧ (s.advanceWalker).port = s.port ∧ (s.advanceWalker).hello = s.hello ∧
    (s.advanceWalker).sweep = s.sweep ∧ (s.advanceWalker).driver = s.driver ∧ (s.advanceWalker).monitor = s.monitor ∧
    (s.advanceWalker).arb = s.arb ∧ (s.advanceWalker).due = s.due ∧ (s.advanceWalker).role = s.role := by
  unfold advanceWalker; simp

@[simp] theorem visit_frame (s : State) (i : Nat) :
    (s.visit i).pending = s.pending ∧ (s.visit i).clock = s.clock ∧ (s.visit i).resetLow = s.resetLow ∧
    (s.visit i).letter = s.letter ∧ (s.visit i).busData = s.busData ∧ (s.visit i).req.queue = s.req.queue ∧
    (s.visit i).req.completions = s.req.completions ∧ (s.visit i).req.running = s.req.running ∧
    (s.visit i).req.assembling = s.req.assembling ∧ (s.visit i).req.readPos = s.req.readPos ∧
    (s.visit i).req.enable = s.req.enable ∧ (s.visit i).req.drops = s.req.drops ∧ (s.visit i).cfg = s.cfg ∧
    (s.visit i).aging = s.aging ∧ (s.visit i).pool.laneMode = s.pool.laneMode ∧
    (s.visit i).pool.addrCount = s.pool.addrCount ∧ (s.visit i).pool.staticBlocks = s.pool.staticBlocks ∧
    (s.visit i).dq.catchup = s.dq.catchup ∧ (s.visit i).dq.catchupCursor = s.dq.catchupCursor ∧
    (s.visit i).port = s.port ∧ (s.visit i).hello = s.hello ∧ (s.visit i).sweep = s.sweep ∧
    (s.visit i).driver = s.driver ∧ (s.visit i).monitor = s.monitor ∧ (s.visit i).arb = s.arb ∧
    (s.visit i).due = s.due ∧ (s.visit i).role = s.role ∧ (s.visit i).now = s.now ∧ (s.visit i).up = s.up := by
  unfold visit; (repeat' split) <;> simp

@[simp] theorem clearListenDue_frame (s : State) :
    (s.clearListenDue).pending = s.pending ∧ (s.clearListenDue).clock = s.clock ∧
    (s.clearListenDue).resetLow = s.resetLow ∧ (s.clearListenDue).letter = s.letter ∧
    (s.clearListenDue).busData = s.busData ∧ (s.clearListenDue).req = s.req ∧ (s.clearListenDue).cfg = s.cfg ∧
    (s.clearListenDue).table = s.table ∧ (s.clearListenDue).aging = s.aging ∧ (s.clearListenDue).pool = s.pool ∧
    (s.clearListenDue).dq = s.dq ∧ (s.clearListenDue).port = s.port ∧ (s.clearListenDue).hello = s.hello ∧
    (s.clearListenDue).sweep = s.sweep ∧ (s.clearListenDue).driver = s.driver ∧
    (s.clearListenDue).monitor = s.monitor ∧ (s.clearListenDue).arb = s.arb ∧
    (s.clearListenDue).due.heartbeat = s.due.heartbeat ∧ (s.clearListenDue).due.silence = s.due.silence ∧
    (s.clearListenDue).due.healthHold = s.due.healthHold ∧ (s.clearListenDue).due.yieldTimer = s.due.yieldTimer ∧
    (s.clearListenDue).due.quarantine = s.due.quarantine ∧ (s.clearListenDue).role = s.role ∧
    (s.clearListenDue).now = s.now := by
  unfold clearListenDue; simp

@[simp] theorem carrierAppears_frame (s : State) :
    (s.carrierAppears).pending = s.pending ∧ (s.carrierAppears).clock = s.clock ∧
    (s.carrierAppears).resetLow = s.resetLow ∧ (s.carrierAppears).letter = s.letter ∧
    (s.carrierAppears).busData = s.busData ∧ (s.carrierAppears).req = s.req ∧ (s.carrierAppears).cfg = s.cfg ∧
    (s.carrierAppears).table = s.table ∧ (s.carrierAppears).aging = s.aging ∧ (s.carrierAppears).pool = s.pool ∧
    (s.carrierAppears).dq = s.dq ∧ (s.carrierAppears).port.inFlight = s.port.inFlight ∧
    (s.carrierAppears).port.nextSeq = s.port.nextSeq ∧ (s.carrierAppears).port.expected = s.port.expected ∧
    (s.carrierAppears).port.heartbeat = s.port.heartbeat ∧ (s.carrierAppears).port.silence = s.port.silence ∧
    (s.carrierAppears).port.lastEnd = s.port.lastEnd ∧
    (s.carrierAppears).port.applying = s.port.applying ∧ (s.carrierAppears).port.sweepBegin = s.port.sweepBegin ∧
    (s.carrierAppears).port.sweepEnd = s.port.sweepEnd ∧ (s.carrierAppears).port.yieldMarker = s.port.yieldMarker ∧
    (s.carrierAppears).hello.ackExchange = s.hello.ackExchange ∧ (s.carrierAppears).hello.refusal = s.hello.refusal ∧
    (s.carrierAppears).sweep = s.sweep ∧ (s.carrierAppears).driver = s.driver ∧
    (s.carrierAppears).monitor = s.monitor ∧ (s.carrierAppears).arb = s.arb ∧ (s.carrierAppears).due = s.due ∧
    (s.carrierAppears).role = s.role ∧ (s.carrierAppears).now = s.now := by
  unfold carrierAppears; split <;> simp

@[simp] theorem carrierLost_frame (s : State) :
    (s.carrierLost).pending = s.pending ∧ (s.carrierLost).clock = s.clock ∧ (s.carrierLost).resetLow = s.resetLow ∧
    (s.carrierLost).letter = s.letter ∧ (s.carrierLost).busData = s.busData ∧
    (s.carrierLost).req.queue = s.req.queue ∧ (s.carrierLost).req.assembling = s.req.assembling ∧
    (s.carrierLost).req.readPos = s.req.readPos ∧ (s.carrierLost).req.enable = s.req.enable ∧
    (s.carrierLost).req.drops = s.req.drops ∧ (s.carrierLost).cfg = s.cfg ∧ (s.carrierLost).aging = s.aging ∧
    (s.carrierLost).pool.quarantine = s.pool.quarantine ∧ (s.carrierLost).pool.bound = s.pool.bound ∧
    (s.carrierLost).pool.addrCount = s.pool.addrCount ∧ (s.carrierLost).pool.staticBlocks = s.pool.staticBlocks ∧
    (s.carrierLost).pool.cursors = s.pool.cursors ∧ (s.carrierLost).dq.catchupCursor = s.dq.catchupCursor ∧
    (s.carrierLost).port.nextSeq = s.port.nextSeq ∧ (s.carrierLost).port.expected = s.port.expected ∧
    (s.carrierLost).hello.ackExchange = s.hello.ackExchange ∧ (s.carrierLost).hello.refusal = s.hello.refusal ∧
    (s.carrierLost).sweep.cursor = s.sweep.cursor ∧ (s.carrierLost).sweep.scanCount = s.sweep.scanCount ∧
    (s.carrierLost).monitor = s.monitor ∧ (s.carrierLost).arb.health = s.arb.health ∧
    (s.carrierLost).arb.hold = s.arb.hold ∧ (s.carrierLost).arb.peer = s.arb.peer ∧ (s.carrierLost).due = s.due ∧
    (s.carrierLost).now = s.now := by
  unfold carrierLost; split <;> simp

@[simp] theorem goBack_frame (s : State) :
    (s.goBack).pending = s.pending ∧ (s.goBack).clock = s.clock ∧ (s.goBack).resetLow = s.resetLow ∧
    (s.goBack).letter = s.letter ∧ (s.goBack).busData = s.busData ∧ (s.goBack).req.queue = s.req.queue ∧
    (s.goBack).req.completions = s.req.completions ∧ (s.goBack).req.running = s.req.running ∧
    (s.goBack).req.assembling = s.req.assembling ∧ (s.goBack).req.readPos = s.req.readPos ∧
    (s.goBack).req.latch = s.req.latch ∧ (s.goBack).req.enable = s.req.enable ∧ (s.goBack).req.drops = s.req.drops ∧
    (s.goBack).cfg = s.cfg ∧ (s.goBack).table = s.table ∧ (s.goBack).aging = s.aging ∧ (s.goBack).pool = s.pool ∧
    (s.goBack).dq = s.dq ∧ (s.goBack).port.link = s.port.link ∧ (s.goBack).port.carrier = s.port.carrier ∧
    (s.goBack).port.nextSeq = s.port.nextSeq ∧ (s.goBack).port.expected = s.port.expected ∧
    (s.goBack).port.heartbeat = s.port.heartbeat ∧ (s.goBack).port.silence = s.port.silence ∧
    (s.goBack).port.lastEnd = s.port.lastEnd ∧
    (s.goBack).port.applying = s.port.applying ∧ (s.goBack).port.sweepBegin = s.port.sweepBegin ∧
    (s.goBack).port.sweepEnd = s.port.sweepEnd ∧ (s.goBack).port.yieldMarker = s.port.yieldMarker ∧
    (s.goBack).port.tx.sending = s.port.tx.sending ∧ (s.goBack).port.tx.hello = s.port.tx.hello ∧
    (s.goBack).port.tx.acks = s.port.tx.acks ∧ (s.goBack).port.tx.beat = s.port.tx.beat ∧
    (s.goBack).port.tx.returned = s.port.tx.returned ∧ (s.goBack).port.tx.outbound = s.port.tx.outbound ∧
    (s.goBack).hello = s.hello ∧ (s.goBack).sweep = s.sweep ∧ (s.goBack).driver = s.driver ∧
    (s.goBack).monitor = s.monitor ∧ (s.goBack).arb = s.arb ∧ (s.goBack).due = s.due ∧ (s.goBack).role = s.role ∧
    (s.goBack).now = s.now ∧ (s.goBack).up = s.up := by
  simp [goBack, role, up]

@[simp] theorem recordSend_frame (s : State) (seq : Byte) :
    (s.recordSend seq).pending = s.pending ∧ (s.recordSend seq).clock = s.clock ∧
    (s.recordSend seq).resetLow = s.resetLow ∧ (s.recordSend seq).letter = s.letter ∧
    (s.recordSend seq).busData = s.busData ∧ (s.recordSend seq).req = s.req ∧ (s.recordSend seq).cfg = s.cfg ∧
    (s.recordSend seq).table = s.table ∧ (s.recordSend seq).aging = s.aging ∧ (s.recordSend seq).pool = s.pool ∧
    (s.recordSend seq).dq = s.dq ∧ (s.recordSend seq).port.link = s.port.link ∧
    (s.recordSend seq).port.carrier = s.port.carrier ∧ (s.recordSend seq).port.nextSeq = s.port.nextSeq ∧
    (s.recordSend seq).port.expected = s.port.expected ∧ (s.recordSend seq).port.heartbeat = s.port.heartbeat ∧
    (s.recordSend seq).port.silence = s.port.silence ∧ (s.recordSend seq).port.lastEnd = s.port.lastEnd ∧
    (s.recordSend seq).port.applying = s.port.applying ∧
    (s.recordSend seq).port.sweepBegin = s.port.sweepBegin ∧ (s.recordSend seq).port.sweepEnd = s.port.sweepEnd ∧
    (s.recordSend seq).port.yieldMarker = s.port.yieldMarker ∧ (s.recordSend seq).port.tx = s.port.tx ∧
    (s.recordSend seq).hello = s.hello ∧ (s.recordSend seq).sweep = s.sweep ∧ (s.recordSend seq).driver = s.driver ∧
    (s.recordSend seq).monitor = s.monitor ∧ (s.recordSend seq).arb = s.arb ∧ (s.recordSend seq).due = s.due ∧
    (s.recordSend seq).role = s.role ∧ (s.recordSend seq).now = s.now := by
  unfold recordSend; simp

@[simp] theorem recordProbe_frame (s : State) (p : Probe) :
    (s.recordProbe p).pending = s.pending ∧ (s.recordProbe p).clock = s.clock ∧
    (s.recordProbe p).resetLow = s.resetLow ∧ (s.recordProbe p).letter = s.letter ∧
    (s.recordProbe p).busData = s.busData ∧ (s.recordProbe p).req.queue = s.req.queue ∧
    (s.recordProbe p).req.completions = s.req.completions ∧ (s.recordProbe p).req.assembling = s.req.assembling ∧
    (s.recordProbe p).req.readPos = s.req.readPos ∧ (s.recordProbe p).req.latch = s.req.latch ∧
    (s.recordProbe p).req.enable = s.req.enable ∧ (s.recordProbe p).req.drops = s.req.drops ∧
    (s.recordProbe p).req.counters = s.req.counters ∧ (s.recordProbe p).cfg = s.cfg ∧
    (s.recordProbe p).table = s.table ∧ (s.recordProbe p).aging = s.aging ∧ (s.recordProbe p).pool = s.pool ∧
    (s.recordProbe p).dq = s.dq ∧ (s.recordProbe p).port = s.port ∧ (s.recordProbe p).hello = s.hello ∧
    (s.recordProbe p).sweep = s.sweep ∧ (s.recordProbe p).driver = s.driver ∧ (s.recordProbe p).monitor = s.monitor ∧
    (s.recordProbe p).arb = s.arb ∧ (s.recordProbe p).due = s.due ∧ (s.recordProbe p).role = s.role ∧
    (s.recordProbe p).now = s.now := by
  unfold recordProbe; (repeat' split) <;> simp

@[simp] theorem recordSent_frame (s : State) (f : Frame) :
    (s.recordSent f).pending = s.pending ∧ (s.recordSent f).clock = s.clock ∧
    (s.recordSent f).resetLow = s.resetLow ∧ (s.recordSent f).letter = s.letter ∧
    (s.recordSent f).busData = s.busData ∧ (s.recordSent f).req.queue = s.req.queue ∧
    (s.recordSent f).req.completions = s.req.completions ∧ (s.recordSent f).req.assembling = s.req.assembling ∧
    (s.recordSent f).req.readPos = s.req.readPos ∧ (s.recordSent f).req.latch = s.req.latch ∧
    (s.recordSent f).req.enable = s.req.enable ∧ (s.recordSent f).req.drops = s.req.drops ∧
    (s.recordSent f).req.counters = s.req.counters ∧ (s.recordSent f).cfg = s.cfg ∧
    (s.recordSent f).table = s.table ∧ (s.recordSent f).aging = s.aging ∧ (s.recordSent f).pool = s.pool ∧
    (s.recordSent f).dq = s.dq ∧ (s.recordSent f).port.link = s.port.link ∧
    (s.recordSent f).port.carrier = s.port.carrier ∧ (s.recordSent f).port.nextSeq = s.port.nextSeq ∧
    (s.recordSent f).port.expected = s.port.expected ∧ (s.recordSent f).port.heartbeat = s.port.heartbeat ∧
    (s.recordSent f).port.silence = s.port.silence ∧ (s.recordSent f).port.lastEnd = s.port.lastEnd ∧
    (s.recordSent f).port.applying = s.port.applying ∧
    (s.recordSent f).port.sweepBegin = s.port.sweepBegin ∧ (s.recordSent f).port.sweepEnd = s.port.sweepEnd ∧
    (s.recordSent f).port.yieldMarker = s.port.yieldMarker ∧ (s.recordSent f).port.tx = s.port.tx ∧
    (s.recordSent f).hello = s.hello ∧ (s.recordSent f).sweep = s.sweep ∧ (s.recordSent f).driver = s.driver ∧
    (s.recordSent f).monitor = s.monitor ∧ (s.recordSent f).arb = s.arb ∧ (s.recordSent f).due = s.due ∧
    (s.recordSent f).role = s.role ∧ (s.recordSent f).now = s.now ∧ (s.recordSent f).up = s.up := by
  unfold recordSent; split <;> simp [role, up]

@[simp] theorem finishSend_frame (s : State) :
    (s.finishSend).pending = s.pending ∧ (s.finishSend).clock = s.clock ∧ (s.finishSend).resetLow = s.resetLow ∧
    (s.finishSend).letter = s.letter ∧ (s.finishSend).busData = s.busData ∧ (s.finishSend).req.queue = s.req.queue ∧
    (s.finishSend).req.completions = s.req.completions ∧ (s.finishSend).req.assembling = s.req.assembling ∧
    (s.finishSend).req.readPos = s.req.readPos ∧ (s.finishSend).req.latch = s.req.latch ∧
    (s.finishSend).req.enable = s.req.enable ∧ (s.finishSend).req.drops = s.req.drops ∧
    (s.finishSend).req.counters = s.req.counters ∧ (s.finishSend).cfg = s.cfg ∧ (s.finishSend).table = s.table ∧
    (s.finishSend).aging = s.aging ∧ (s.finishSend).pool = s.pool ∧ (s.finishSend).dq = s.dq ∧
    (s.finishSend).port.link = s.port.link ∧ (s.finishSend).port.carrier = s.port.carrier ∧
    (s.finishSend).port.nextSeq = s.port.nextSeq ∧ (s.finishSend).port.expected = s.port.expected ∧
    (s.finishSend).port.heartbeat = s.port.heartbeat ∧ (s.finishSend).port.silence = s.port.silence ∧
    (s.finishSend).port.lastEnd = s.port.lastEnd ∧
    (s.finishSend).port.applying = s.port.applying ∧ (s.finishSend).port.sweepBegin = s.port.sweepBegin ∧
    (s.finishSend).port.sweepEnd = s.port.sweepEnd ∧ (s.finishSend).port.yieldMarker = s.port.yieldMarker ∧
    (s.finishSend).hello = s.hello ∧ (s.finishSend).sweep = s.sweep ∧ (s.finishSend).driver = s.driver ∧
    (s.finishSend).monitor = s.monitor ∧ (s.finishSend).arb = s.arb ∧ (s.finishSend).due = s.due ∧
    (s.finishSend).role = s.role ∧ (s.finishSend).now = s.now ∧ (s.finishSend).up = s.up := by
  unfold finishSend; split <;> simp [role, up]

@[simp] theorem catchupMove_frame (s : State) :
    (s.catchupMove).pending = s.pending ∧ (s.catchupMove).clock = s.clock ∧ (s.catchupMove).resetLow = s.resetLow ∧
    (s.catchupMove).letter = s.letter ∧ (s.catchupMove).busData = s.busData ∧
    (s.catchupMove).req.queue = s.req.queue ∧ (s.catchupMove).req.completions = s.req.completions ∧
    (s.catchupMove).req.running = s.req.running ∧ (s.catchupMove).req.assembling = s.req.assembling ∧
    (s.catchupMove).req.readPos = s.req.readPos ∧ (s.catchupMove).req.enable = s.req.enable ∧
    (s.catchupMove).req.drops = s.req.drops ∧ (s.catchupMove).req.counters = s.req.counters ∧
    (s.catchupMove).cfg = s.cfg ∧ (s.catchupMove).table = s.table ∧ (s.catchupMove).aging = s.aging ∧
    (s.catchupMove).pool = s.pool ∧ (s.catchupMove).dq.entries = s.dq.entries ∧ (s.catchupMove).port = s.port ∧
    (s.catchupMove).hello = s.hello ∧ (s.catchupMove).sweep = s.sweep ∧ (s.catchupMove).driver = s.driver ∧
    (s.catchupMove).monitor = s.monitor ∧ (s.catchupMove).arb = s.arb ∧ (s.catchupMove).due = s.due ∧
    (s.catchupMove).role = s.role ∧ (s.catchupMove).now = s.now := by
  unfold catchupMove; (repeat' split) <;> simp

@[simp] theorem catchupVisit_frame (s : State) :
    (s.catchupVisit).pending = s.pending ∧ (s.catchupVisit).clock = s.clock ∧
    (s.catchupVisit).resetLow = s.resetLow ∧ (s.catchupVisit).letter = s.letter ∧
    (s.catchupVisit).busData = s.busData ∧ (s.catchupVisit).req.queue = s.req.queue ∧
    (s.catchupVisit).req.completions = s.req.completions ∧ (s.catchupVisit).req.running = s.req.running ∧
    (s.catchupVisit).req.assembling = s.req.assembling ∧ (s.catchupVisit).req.readPos = s.req.readPos ∧
    (s.catchupVisit).req.enable = s.req.enable ∧ (s.catchupVisit).req.drops = s.req.drops ∧
    (s.catchupVisit).cfg = s.cfg ∧ (s.catchupVisit).aging = s.aging ∧ (s.catchupVisit).pool = s.pool ∧
    (s.catchupVisit).port = s.port ∧ (s.catchupVisit).hello = s.hello ∧ (s.catchupVisit).sweep = s.sweep ∧
    (s.catchupVisit).driver = s.driver ∧ (s.catchupVisit).monitor = s.monitor ∧ (s.catchupVisit).arb = s.arb ∧
    (s.catchupVisit).due = s.due ∧ (s.catchupVisit).role = s.role ∧ (s.catchupVisit).now = s.now ∧
    (s.catchupVisit).up = s.up := by
  unfold catchupVisit; dsimp only; (repeat' split) <;> simp [role, up]

@[simp] theorem takePeer_frame (s : State) (b : Beat) :
    (s.takePeer b).pending = s.pending ∧ (s.takePeer b).clock = s.clock ∧ (s.takePeer b).resetLow = s.resetLow ∧
    (s.takePeer b).letter = s.letter ∧ (s.takePeer b).busData = s.busData ∧ (s.takePeer b).req = s.req ∧
    (s.takePeer b).cfg = s.cfg ∧ (s.takePeer b).table = s.table ∧ (s.takePeer b).aging = s.aging ∧
    (s.takePeer b).pool = s.pool ∧ (s.takePeer b).dq = s.dq ∧ (s.takePeer b).port = s.port ∧
    (s.takePeer b).hello = s.hello ∧ (s.takePeer b).sweep = s.sweep ∧ (s.takePeer b).driver = s.driver ∧
    (s.takePeer b).monitor = s.monitor ∧ (s.takePeer b).arb.role = s.arb.role ∧
    (s.takePeer b).arb.epoch = s.arb.epoch ∧ (s.takePeer b).arb.health = s.arb.health ∧
    (s.takePeer b).arb.hold = s.arb.hold ∧ (s.takePeer b).arb.takeoverTick = s.arb.takeoverTick ∧
    (s.takePeer b).arb.grace = s.arb.grace ∧ (s.takePeer b).arb.listen = s.arb.listen ∧
    (s.takePeer b).arb.healthHold = s.arb.healthHold ∧ (s.takePeer b).arb.yieldTimer = s.arb.yieldTimer ∧
    (s.takePeer b).arb.yieldTaken = s.arb.yieldTaken ∧ (s.takePeer b).arb.yieldHanded = s.arb.yieldHanded ∧
    (s.takePeer b).due = s.due ∧ (s.takePeer b).role = s.role ∧ (s.takePeer b).now = s.now ∧
    (s.takePeer b).up = s.up := by
  simp [takePeer, role, up]

@[simp] theorem splitByBeat_frame (s : State) :
    (s.splitByBeat).pending = s.pending ∧ (s.splitByBeat).clock = s.clock ∧ (s.splitByBeat).resetLow = s.resetLow ∧
    (s.splitByBeat).letter = s.letter ∧ (s.splitByBeat).busData = s.busData ∧
    (s.splitByBeat).req.queue = s.req.queue ∧ (s.splitByBeat).req.completions = s.req.completions ∧
    (s.splitByBeat).req.running = s.req.running ∧ (s.splitByBeat).req.assembling = s.req.assembling ∧
    (s.splitByBeat).req.readPos = s.req.readPos ∧ (s.splitByBeat).req.enable = s.req.enable ∧
    (s.splitByBeat).req.drops = s.req.drops ∧ (s.splitByBeat).req.counters = s.req.counters ∧
    (s.splitByBeat).cfg = s.cfg ∧ (s.splitByBeat).aging = s.aging ∧
    (s.splitByBeat).pool.quarantine = s.pool.quarantine ∧ (s.splitByBeat).pool.bound = s.pool.bound ∧
    (s.splitByBeat).pool.addrCount = s.pool.addrCount ∧ (s.splitByBeat).pool.staticBlocks = s.pool.staticBlocks ∧
    (s.splitByBeat).pool.cursors = s.pool.cursors ∧ (s.splitByBeat).dq.catchupCursor = s.dq.catchupCursor ∧
    (s.splitByBeat).port.link = s.port.link ∧ (s.splitByBeat).port.carrier = s.port.carrier ∧
    (s.splitByBeat).port.nextSeq = s.port.nextSeq ∧ (s.splitByBeat).port.expected = s.port.expected ∧
    (s.splitByBeat).port.silence = s.port.silence ∧ (s.splitByBeat).port.lastEnd = s.port.lastEnd ∧
    (s.splitByBeat).port.applying = s.port.applying ∧
    (s.splitByBeat).hello.ackExchange = s.hello.ackExchange ∧ (s.splitByBeat).hello.refusal = s.hello.refusal ∧
    (s.splitByBeat).sweep.scanCount = s.sweep.scanCount ∧ (s.splitByBeat).monitor = s.monitor ∧
    (s.splitByBeat).arb.epoch = s.arb.epoch ∧ (s.splitByBeat).arb.health = s.arb.health ∧
    (s.splitByBeat).arb.hold = s.arb.hold ∧ (s.splitByBeat).arb.takeoverTick = s.arb.takeoverTick ∧
    (s.splitByBeat).arb.grace = s.arb.grace ∧ (s.splitByBeat).arb.listen = s.arb.listen ∧
    (s.splitByBeat).arb.yieldTaken = s.arb.yieldTaken ∧ (s.splitByBeat).arb.peer = s.arb.peer ∧
    (s.splitByBeat).due = s.due ∧ (s.splitByBeat).now = s.now ∧ (s.splitByBeat).up = s.up := by
  unfold splitByBeat; dsimp only; split <;> simp [up]

@[simp] theorem noActivePeer_frame (s : State) :
    (s.noActivePeer).pending = s.pending ∧ (s.noActivePeer).clock = s.clock ∧
    (s.noActivePeer).resetLow = s.resetLow ∧ (s.noActivePeer).letter = s.letter ∧
    (s.noActivePeer).busData = s.busData ∧ (s.noActivePeer).req.queue = s.req.queue ∧
    (s.noActivePeer).req.completions = s.req.completions ∧ (s.noActivePeer).req.running = s.req.running ∧
    (s.noActivePeer).req.assembling = s.req.assembling ∧ (s.noActivePeer).req.readPos = s.req.readPos ∧
    (s.noActivePeer).req.enable = s.req.enable ∧ (s.noActivePeer).req.drops = s.req.drops ∧
    (s.noActivePeer).req.counters = s.req.counters ∧ (s.noActivePeer).cfg = s.cfg ∧
    (s.noActivePeer).table = s.table ∧ (s.noActivePeer).aging = s.aging ∧
    (s.noActivePeer).pool.quarantine = s.pool.quarantine ∧ (s.noActivePeer).pool.bound = s.pool.bound ∧
    (s.noActivePeer).pool.addrCount = s.pool.addrCount ∧ (s.noActivePeer).pool.staticBlocks = s.pool.staticBlocks ∧
    (s.noActivePeer).pool.cursors = s.pool.cursors ∧ (s.noActivePeer).dq = s.dq ∧
    (s.noActivePeer).port.link = s.port.link ∧ (s.noActivePeer).port.carrier = s.port.carrier ∧
    (s.noActivePeer).port.nextSeq = s.port.nextSeq ∧ (s.noActivePeer).port.expected = s.port.expected ∧
    (s.noActivePeer).port.silence = s.port.silence ∧ (s.noActivePeer).port.lastEnd = s.port.lastEnd ∧
    (s.noActivePeer).port.applying = s.port.applying ∧
    (s.noActivePeer).hello.ackExchange = s.hello.ackExchange ∧ (s.noActivePeer).hello.refusal = s.hello.refusal ∧
    (s.noActivePeer).sweep.scanCount = s.sweep.scanCount ∧ (s.noActivePeer).monitor = s.monitor ∧
    (s.noActivePeer).arb.health = s.arb.health ∧ (s.noActivePeer).arb.hold = s.arb.hold ∧
    (s.noActivePeer).arb.peer = s.arb.peer ∧ (s.noActivePeer).due = s.due ∧ (s.noActivePeer).now = s.now ∧
    (s.noActivePeer).up = s.up := by
  unfold noActivePeer; split <;> simp

@[simp] theorem splitInYield_frame (s : State) :
    (s.splitInYield).pending = s.pending ∧ (s.splitInYield).clock = s.clock ∧
    (s.splitInYield).resetLow = s.resetLow ∧ (s.splitInYield).letter = s.letter ∧
    (s.splitInYield).busData = s.busData ∧ (s.splitInYield).req.queue = s.req.queue ∧
    (s.splitInYield).req.completions = s.req.completions ∧ (s.splitInYield).req.running = s.req.running ∧
    (s.splitInYield).req.assembling = s.req.assembling ∧ (s.splitInYield).req.readPos = s.req.readPos ∧
    (s.splitInYield).req.enable = s.req.enable ∧ (s.splitInYield).req.drops = s.req.drops ∧
    (s.splitInYield).req.counters = s.req.counters ∧ (s.splitInYield).cfg = s.cfg ∧
    (s.splitInYield).aging = s.aging ∧ (s.splitInYield).pool.quarantine = s.pool.quarantine ∧
    (s.splitInYield).pool.bound = s.pool.bound ∧ (s.splitInYield).pool.addrCount = s.pool.addrCount ∧
    (s.splitInYield).pool.staticBlocks = s.pool.staticBlocks ∧ (s.splitInYield).pool.cursors = s.pool.cursors ∧
    (s.splitInYield).dq.catchupCursor = s.dq.catchupCursor ∧ (s.splitInYield).port.link = s.port.link ∧
    (s.splitInYield).port.carrier = s.port.carrier ∧ (s.splitInYield).port.nextSeq = s.port.nextSeq ∧
    (s.splitInYield).port.expected = s.port.expected ∧ (s.splitInYield).port.silence = s.port.silence ∧
    (s.splitInYield).port.lastEnd = s.port.lastEnd ∧
    (s.splitInYield).port.applying = s.port.applying ∧ (s.splitInYield).hello.ackExchange = s.hello.ackExchange ∧
    (s.splitInYield).hello.refusal = s.hello.refusal ∧ (s.splitInYield).sweep.scanCount = s.sweep.scanCount ∧
    (s.splitInYield).monitor = s.monitor ∧ (s.splitInYield).arb.epoch = s.arb.epoch ∧
    (s.splitInYield).arb.health = s.arb.health ∧ (s.splitInYield).arb.hold = s.arb.hold ∧
    (s.splitInYield).arb.takeoverTick = s.arb.takeoverTick ∧ (s.splitInYield).arb.grace = s.arb.grace ∧
    (s.splitInYield).arb.listen = s.arb.listen ∧ (s.splitInYield).arb.yieldTaken = s.arb.yieldTaken ∧
    (s.splitInYield).arb.peer = s.arb.peer ∧ (s.splitInYield).due = s.due ∧ (s.splitInYield).now = s.now ∧
    (s.splitInYield).up = s.up := by
  unfold splitInYield; dsimp only; split <;> simp [up]

@[simp] theorem answerBeat_frame (s : State) (peer : Role) :
    (s.answerBeat peer).pending = s.pending ∧ (s.answerBeat peer).clock = s.clock ∧
    (s.answerBeat peer).resetLow = s.resetLow ∧ (s.answerBeat peer).letter = s.letter ∧
    (s.answerBeat peer).busData = s.busData ∧ (s.answerBeat peer).req.queue = s.req.queue ∧
    (s.answerBeat peer).req.completions = s.req.completions ∧ (s.answerBeat peer).req.running = s.req.running ∧
    (s.answerBeat peer).req.assembling = s.req.assembling ∧ (s.answerBeat peer).req.readPos = s.req.readPos ∧
    (s.answerBeat peer).req.enable = s.req.enable ∧ (s.answerBeat peer).req.drops = s.req.drops ∧
    (s.answerBeat peer).req.counters = s.req.counters ∧ (s.answerBeat peer).cfg = s.cfg ∧
    (s.answerBeat peer).aging = s.aging ∧ (s.answerBeat peer).pool.quarantine = s.pool.quarantine ∧
    (s.answerBeat peer).pool.bound = s.pool.bound ∧ (s.answerBeat peer).pool.addrCount = s.pool.addrCount ∧
    (s.answerBeat peer).pool.staticBlocks = s.pool.staticBlocks ∧ (s.answerBeat peer).pool.cursors = s.pool.cursors ∧
    (s.answerBeat peer).dq.catchupCursor = s.dq.catchupCursor ∧ (s.answerBeat peer).port.link = s.port.link ∧
    (s.answerBeat peer).port.carrier = s.port.carrier ∧ (s.answerBeat peer).port.nextSeq = s.port.nextSeq ∧
    (s.answerBeat peer).port.expected = s.port.expected ∧ (s.answerBeat peer).port.silence = s.port.silence ∧
    (s.answerBeat peer).port.lastEnd = s.port.lastEnd ∧
    (s.answerBeat peer).port.applying = s.port.applying ∧ (s.answerBeat peer).hello.ackExchange = s.hello.ackExchange ∧
    (s.answerBeat peer).hello.refusal = s.hello.refusal ∧ (s.answerBeat peer).sweep.scanCount = s.sweep.scanCount ∧
    (s.answerBeat peer).monitor = s.monitor ∧ (s.answerBeat peer).arb.health = s.arb.health ∧
    (s.answerBeat peer).arb.hold = s.arb.hold ∧ (s.answerBeat peer).arb.peer = s.arb.peer ∧
    (s.answerBeat peer).due = s.due ∧ (s.answerBeat peer).now = s.now ∧ (s.answerBeat peer).up = s.up := by
  unfold answerBeat; (repeat' split) <;> simp

@[simp] theorem receiveBeat_frame (s : State) (b : Beat) :
    (s.receiveBeat b).pending = s.pending ∧ (s.receiveBeat b).clock = s.clock ∧
    (s.receiveBeat b).resetLow = s.resetLow ∧ (s.receiveBeat b).letter = s.letter ∧
    (s.receiveBeat b).busData = s.busData ∧ (s.receiveBeat b).req.queue = s.req.queue ∧
    (s.receiveBeat b).req.completions = s.req.completions ∧ (s.receiveBeat b).req.running = s.req.running ∧
    (s.receiveBeat b).req.assembling = s.req.assembling ∧ (s.receiveBeat b).req.readPos = s.req.readPos ∧
    (s.receiveBeat b).req.enable = s.req.enable ∧ (s.receiveBeat b).req.drops = s.req.drops ∧
    (s.receiveBeat b).req.counters = s.req.counters ∧ (s.receiveBeat b).cfg = s.cfg ∧
    (s.receiveBeat b).aging = s.aging ∧ (s.receiveBeat b).pool.quarantine = s.pool.quarantine ∧
    (s.receiveBeat b).pool.bound = s.pool.bound ∧ (s.receiveBeat b).pool.addrCount = s.pool.addrCount ∧
    (s.receiveBeat b).pool.staticBlocks = s.pool.staticBlocks ∧ (s.receiveBeat b).pool.cursors = s.pool.cursors ∧
    (s.receiveBeat b).dq.catchupCursor = s.dq.catchupCursor ∧ (s.receiveBeat b).port.link = s.port.link ∧
    (s.receiveBeat b).port.carrier = s.port.carrier ∧ (s.receiveBeat b).port.nextSeq = s.port.nextSeq ∧
    (s.receiveBeat b).port.expected = s.port.expected ∧ (s.receiveBeat b).port.lastEnd = s.port.lastEnd ∧
    (s.receiveBeat b).port.applying = s.port.applying ∧
    (s.receiveBeat b).hello.ackExchange = s.hello.ackExchange ∧ (s.receiveBeat b).hello.refusal = s.hello.refusal ∧
    (s.receiveBeat b).sweep.scanCount = s.sweep.scanCount ∧ (s.receiveBeat b).monitor = s.monitor ∧
    (s.receiveBeat b).arb.health = s.arb.health ∧ (s.receiveBeat b).arb.hold = s.arb.hold ∧
    (s.receiveBeat b).due = s.due ∧ (s.receiveBeat b).now = s.now ∧ (s.receiveBeat b).up = s.up := by
  unfold receiveBeat; split <;> simp [up]

@[simp] theorem returnProbe_frame (s : State) (p : Probe) :
    (s.returnProbe p).pending = s.pending ∧ (s.returnProbe p).clock = s.clock ∧
    (s.returnProbe p).resetLow = s.resetLow ∧ (s.returnProbe p).letter = s.letter ∧
    (s.returnProbe p).busData = s.busData ∧ (s.returnProbe p).req = s.req ∧ (s.returnProbe p).cfg = s.cfg ∧
    (s.returnProbe p).table = s.table ∧ (s.returnProbe p).aging = s.aging ∧ (s.returnProbe p).pool = s.pool ∧
    (s.returnProbe p).dq = s.dq ∧ (s.returnProbe p).port.link = s.port.link ∧
    (s.returnProbe p).port.inFlight = s.port.inFlight ∧ (s.returnProbe p).port.carrier = s.port.carrier ∧
    (s.returnProbe p).port.nextSeq = s.port.nextSeq ∧ (s.returnProbe p).port.expected = s.port.expected ∧
    (s.returnProbe p).port.heartbeat = s.port.heartbeat ∧ (s.returnProbe p).port.lastEnd = s.port.lastEnd ∧
    (s.returnProbe p).port.applying = s.port.applying ∧
    (s.returnProbe p).port.sweepBegin = s.port.sweepBegin ∧ (s.returnProbe p).port.sweepEnd = s.port.sweepEnd ∧
    (s.returnProbe p).port.yieldMarker = s.port.yieldMarker ∧ (s.returnProbe p).hello = s.hello ∧
    (s.returnProbe p).sweep = s.sweep ∧ (s.returnProbe p).driver = s.driver ∧ (s.returnProbe p).monitor = s.monitor ∧
    (s.returnProbe p).arb = s.arb ∧ (s.returnProbe p).due = s.due ∧ (s.returnProbe p).role = s.role ∧
    (s.returnProbe p).now = s.now ∧ (s.returnProbe p).up = s.up := by
  simp [returnProbe, role, up]

@[simp] theorem countProbe_frame (s : State) (p : Probe) :
    (s.countProbe p).pending = s.pending ∧ (s.countProbe p).clock = s.clock ∧
    (s.countProbe p).resetLow = s.resetLow ∧ (s.countProbe p).letter = s.letter ∧
    (s.countProbe p).busData = s.busData ∧ (s.countProbe p).req.queue = s.req.queue ∧
    (s.countProbe p).req.completions = s.req.completions ∧ (s.countProbe p).req.assembling = s.req.assembling ∧
    (s.countProbe p).req.readPos = s.req.readPos ∧ (s.countProbe p).req.latch = s.req.latch ∧
    (s.countProbe p).req.enable = s.req.enable ∧ (s.countProbe p).req.drops = s.req.drops ∧
    (s.countProbe p).req.counters = s.req.counters ∧ (s.countProbe p).cfg = s.cfg ∧
    (s.countProbe p).table = s.table ∧ (s.countProbe p).aging = s.aging ∧ (s.countProbe p).pool = s.pool ∧
    (s.countProbe p).dq = s.dq ∧ (s.countProbe p).port = s.port ∧ (s.countProbe p).hello = s.hello ∧
    (s.countProbe p).sweep = s.sweep ∧ (s.countProbe p).driver = s.driver ∧ (s.countProbe p).monitor = s.monitor ∧
    (s.countProbe p).arb = s.arb ∧ (s.countProbe p).due = s.due ∧ (s.countProbe p).role = s.role ∧
    (s.countProbe p).now = s.now := by
  unfold countProbe; (repeat' split) <;> simp

@[simp] theorem endLoopTest_frame (s : State) :
    (s.endLoopTest).pending = s.pending ∧ (s.endLoopTest).clock = s.clock ∧ (s.endLoopTest).resetLow = s.resetLow ∧
    (s.endLoopTest).letter = s.letter ∧ (s.endLoopTest).busData = s.busData ∧
    (s.endLoopTest).req.queue = s.req.queue ∧ (s.endLoopTest).req.assembling = s.req.assembling ∧
    (s.endLoopTest).req.readPos = s.req.readPos ∧ (s.endLoopTest).req.enable = s.req.enable ∧
    (s.endLoopTest).req.drops = s.req.drops ∧ (s.endLoopTest).req.counters = s.req.counters ∧
    (s.endLoopTest).cfg = s.cfg ∧ (s.endLoopTest).table = s.table ∧ (s.endLoopTest).aging = s.aging ∧
    (s.endLoopTest).pool = s.pool ∧ (s.endLoopTest).dq = s.dq ∧ (s.endLoopTest).port.inFlight = s.port.inFlight ∧
    (s.endLoopTest).port.carrier = s.port.carrier ∧ (s.endLoopTest).port.nextSeq = s.port.nextSeq ∧
    (s.endLoopTest).port.expected = s.port.expected ∧ (s.endLoopTest).port.heartbeat = s.port.heartbeat ∧
    (s.endLoopTest).port.silence = s.port.silence ∧ (s.endLoopTest).port.lastEnd = s.port.lastEnd ∧
    (s.endLoopTest).port.applying = s.port.applying ∧
    (s.endLoopTest).port.sweepBegin = s.port.sweepBegin ∧ (s.endLoopTest).port.sweepEnd = s.port.sweepEnd ∧
    (s.endLoopTest).port.yieldMarker = s.port.yieldMarker ∧ (s.endLoopTest).hello = s.hello ∧
    (s.endLoopTest).sweep = s.sweep ∧ (s.endLoopTest).driver = s.driver ∧ (s.endLoopTest).monitor = s.monitor ∧
    (s.endLoopTest).arb = s.arb ∧ (s.endLoopTest).due = s.due ∧ (s.endLoopTest).role = s.role ∧
    (s.endLoopTest).now = s.now := by
  unfold endLoopTest; split <;> simp

@[simp] theorem receiveReturned_frame (s : State) (p : Probe) :
    (s.receiveReturned p).pending = s.pending ∧ (s.receiveReturned p).clock = s.clock ∧
    (s.receiveReturned p).resetLow = s.resetLow ∧ (s.receiveReturned p).letter = s.letter ∧
    (s.receiveReturned p).busData = s.busData ∧ (s.receiveReturned p).req.queue = s.req.queue ∧
    (s.receiveReturned p).req.assembling = s.req.assembling ∧ (s.receiveReturned p).req.readPos = s.req.readPos ∧
    (s.receiveReturned p).req.enable = s.req.enable ∧ (s.receiveReturned p).req.drops = s.req.drops ∧
    (s.receiveReturned p).req.counters = s.req.counters ∧ (s.receiveReturned p).cfg = s.cfg ∧
    (s.receiveReturned p).table = s.table ∧ (s.receiveReturned p).aging = s.aging ∧
    (s.receiveReturned p).pool = s.pool ∧ (s.receiveReturned p).dq = s.dq ∧
    (s.receiveReturned p).port.inFlight = s.port.inFlight ∧ (s.receiveReturned p).port.carrier = s.port.carrier ∧
    (s.receiveReturned p).port.nextSeq = s.port.nextSeq ∧ (s.receiveReturned p).port.expected = s.port.expected ∧
    (s.receiveReturned p).port.heartbeat = s.port.heartbeat ∧ (s.receiveReturned p).port.lastEnd = s.port.lastEnd ∧
    (s.receiveReturned p).port.applying = s.port.applying ∧
    (s.receiveReturned p).port.sweepBegin = s.port.sweepBegin ∧
    (s.receiveReturned p).port.sweepEnd = s.port.sweepEnd ∧
    (s.receiveReturned p).port.yieldMarker = s.port.yieldMarker ∧ (s.receiveReturned p).hello = s.hello ∧
    (s.receiveReturned p).sweep = s.sweep ∧ (s.receiveReturned p).driver = s.driver ∧
    (s.receiveReturned p).monitor = s.monitor ∧ (s.receiveReturned p).arb = s.arb ∧
    (s.receiveReturned p).due = s.due ∧ (s.receiveReturned p).role = s.role ∧ (s.receiveReturned p).now = s.now := by
  unfold receiveReturned; dsimp only; (repeat' split) <;> simp

@[simp] theorem withReading_frame (s : State) (m : Monitor) :
    (s.withReading m).pending = s.pending ∧ (s.withReading m).clock = s.clock ∧
    (s.withReading m).resetLow = s.resetLow ∧ (s.withReading m).letter = s.letter ∧
    (s.withReading m).busData = s.busData ∧ (s.withReading m).req.queue = s.req.queue ∧
    (s.withReading m).req.completions = s.req.completions ∧ (s.withReading m).req.running = s.req.running ∧
    (s.withReading m).req.assembling = s.req.assembling ∧ (s.withReading m).req.readPos = s.req.readPos ∧
    (s.withReading m).req.enable = s.req.enable ∧ (s.withReading m).req.drops = s.req.drops ∧
    (s.withReading m).req.counters = s.req.counters ∧ (s.withReading m).cfg = s.cfg ∧
    (s.withReading m).table = s.table ∧ (s.withReading m).aging = s.aging ∧
    (s.withReading m).pool.quarantine = s.pool.quarantine ∧ (s.withReading m).pool.bound = s.pool.bound ∧
    (s.withReading m).pool.addrCount = s.pool.addrCount ∧ (s.withReading m).pool.staticBlocks = s.pool.staticBlocks ∧
    (s.withReading m).pool.cursors = s.pool.cursors ∧ (s.withReading m).dq = s.dq ∧
    (s.withReading m).port.link = s.port.link ∧ (s.withReading m).port.inFlight = s.port.inFlight ∧
    (s.withReading m).port.carrier = s.port.carrier ∧ (s.withReading m).port.nextSeq = s.port.nextSeq ∧
    (s.withReading m).port.expected = s.port.expected ∧ (s.withReading m).port.silence = s.port.silence ∧
    (s.withReading m).port.lastEnd = s.port.lastEnd ∧
    (s.withReading m).port.applying = s.port.applying ∧ (s.withReading m).port.sweepBegin = s.port.sweepBegin ∧
    (s.withReading m).port.sweepEnd = s.port.sweepEnd ∧ (s.withReading m).hello.ackExchange = s.hello.ackExchange ∧
    (s.withReading m).hello.refusal = s.hello.refusal ∧ (s.withReading m).sweep = s.sweep ∧
    (s.withReading m).arb.health = s.arb.health ∧ (s.withReading m).arb.hold = s.arb.hold ∧
    (s.withReading m).arb.peer = s.arb.peer ∧ (s.withReading m).due = s.due ∧ (s.withReading m).now = s.now := by
  unfold withReading; (repeat' split) <;> simp

@[simp] theorem judgeRepetition_frame (s : State) (v : Option LinePattern) (f : Monitor → Monitor) :
    (s.judgeRepetition v f).pending = s.pending ∧ (s.judgeRepetition v f).clock = s.clock ∧
    (s.judgeRepetition v f).resetLow = s.resetLow ∧ (s.judgeRepetition v f).letter = s.letter ∧
    (s.judgeRepetition v f).busData = s.busData ∧ (s.judgeRepetition v f).req.queue = s.req.queue ∧
    (s.judgeRepetition v f).req.completions = s.req.completions ∧
    (s.judgeRepetition v f).req.running = s.req.running ∧ (s.judgeRepetition v f).req.assembling = s.req.assembling ∧
    (s.judgeRepetition v f).req.readPos = s.req.readPos ∧ (s.judgeRepetition v f).req.enable = s.req.enable ∧
    (s.judgeRepetition v f).req.drops = s.req.drops ∧ (s.judgeRepetition v f).cfg = s.cfg ∧
    (s.judgeRepetition v f).table = s.table ∧ (s.judgeRepetition v f).aging = s.aging ∧
    (s.judgeRepetition v f).pool.quarantine = s.pool.quarantine ∧ (s.judgeRepetition v f).pool.bound = s.pool.bound ∧
    (s.judgeRepetition v f).pool.addrCount = s.pool.addrCount ∧
    (s.judgeRepetition v f).pool.staticBlocks = s.pool.staticBlocks ∧
    (s.judgeRepetition v f).pool.cursors = s.pool.cursors ∧ (s.judgeRepetition v f).dq = s.dq ∧
    (s.judgeRepetition v f).port.link = s.port.link ∧ (s.judgeRepetition v f).port.inFlight = s.port.inFlight ∧
    (s.judgeRepetition v f).port.carrier = s.port.carrier ∧ (s.judgeRepetition v f).port.nextSeq = s.port.nextSeq ∧
    (s.judgeRepetition v f).port.expected = s.port.expected ∧ (s.judgeRepetition v f).port.silence = s.port.silence ∧
    (s.judgeRepetition v f).port.lastEnd = s.port.lastEnd ∧
    (s.judgeRepetition v f).port.applying = s.port.applying ∧
    (s.judgeRepetition v f).port.sweepBegin = s.port.sweepBegin ∧
    (s.judgeRepetition v f).port.sweepEnd = s.port.sweepEnd ∧
    (s.judgeRepetition v f).hello.ackExchange = s.hello.ackExchange ∧
    (s.judgeRepetition v f).hello.refusal = s.hello.refusal ∧ (s.judgeRepetition v f).sweep = s.sweep ∧
    (s.judgeRepetition v f).arb.health = s.arb.health ∧ (s.judgeRepetition v f).arb.hold = s.arb.hold ∧
    (s.judgeRepetition v f).arb.peer = s.arb.peer ∧ (s.judgeRepetition v f).due = s.due ∧
    (s.judgeRepetition v f).now = s.now ∧ (s.judgeRepetition v f).up = s.up := by
  unfold judgeRepetition; split <;> simp [up]

@[simp] theorem alignmentEdge_frame (s : State) :
    (s.alignmentEdge).pending = s.pending ∧ (s.alignmentEdge).clock = s.clock ∧
    (s.alignmentEdge).resetLow = s.resetLow ∧ (s.alignmentEdge).letter = s.letter ∧
    (s.alignmentEdge).busData = s.busData ∧ (s.alignmentEdge).req.queue = s.req.queue ∧
    (s.alignmentEdge).req.completions = s.req.completions ∧ (s.alignmentEdge).req.running = s.req.running ∧
    (s.alignmentEdge).req.assembling = s.req.assembling ∧ (s.alignmentEdge).req.readPos = s.req.readPos ∧
    (s.alignmentEdge).req.enable = s.req.enable ∧ (s.alignmentEdge).req.drops = s.req.drops ∧
    (s.alignmentEdge).cfg = s.cfg ∧ (s.alignmentEdge).table = s.table ∧ (s.alignmentEdge).aging = s.aging ∧
    (s.alignmentEdge).pool.quarantine = s.pool.quarantine ∧ (s.alignmentEdge).pool.bound = s.pool.bound ∧
    (s.alignmentEdge).pool.addrCount = s.pool.addrCount ∧ (s.alignmentEdge).pool.staticBlocks = s.pool.staticBlocks ∧
    (s.alignmentEdge).pool.cursors = s.pool.cursors ∧ (s.alignmentEdge).dq = s.dq ∧
    (s.alignmentEdge).port.link = s.port.link ∧ (s.alignmentEdge).port.inFlight = s.port.inFlight ∧
    (s.alignmentEdge).port.carrier = s.port.carrier ∧ (s.alignmentEdge).port.nextSeq = s.port.nextSeq ∧
    (s.alignmentEdge).port.expected = s.port.expected ∧ (s.alignmentEdge).port.silence = s.port.silence ∧
    (s.alignmentEdge).port.lastEnd = s.port.lastEnd ∧
    (s.alignmentEdge).port.applying = s.port.applying ∧ (s.alignmentEdge).port.sweepBegin = s.port.sweepBegin ∧
    (s.alignmentEdge).port.sweepEnd = s.port.sweepEnd ∧ (s.alignmentEdge).hello.ackExchange = s.hello.ackExchange ∧
    (s.alignmentEdge).hello.refusal = s.hello.refusal ∧ (s.alignmentEdge).sweep = s.sweep ∧
    (s.alignmentEdge).arb.health = s.arb.health ∧ (s.alignmentEdge).arb.hold = s.arb.hold ∧
    (s.alignmentEdge).arb.peer = s.arb.peer ∧ (s.alignmentEdge).due = s.due ∧ (s.alignmentEdge).now = s.now ∧
    (s.alignmentEdge).up = s.up := by
  unfold alignmentEdge; split <;> simp [up]

@[simp] theorem takeRequest_frame (s : State) (r : Request) :
    (s.takeRequest r).pending = s.pending ∧ (s.takeRequest r).clock = s.clock ∧
    (s.takeRequest r).resetLow = s.resetLow ∧ (s.takeRequest r).letter = s.letter ∧
    (s.takeRequest r).busData = s.busData ∧ (s.takeRequest r).req.completions = s.req.completions ∧
    (s.takeRequest r).req.running = s.req.running ∧ (s.takeRequest r).req.assembling = s.req.assembling ∧
    (s.takeRequest r).req.readPos = s.req.readPos ∧ (s.takeRequest r).req.enable = s.req.enable ∧
    (s.takeRequest r).req.counters = s.req.counters ∧ (s.takeRequest r).cfg = s.cfg ∧
    (s.takeRequest r).table = s.table ∧ (s.takeRequest r).aging = s.aging ∧ (s.takeRequest r).pool = s.pool ∧
    (s.takeRequest r).dq = s.dq ∧ (s.takeRequest r).port = s.port ∧ (s.takeRequest r).hello = s.hello ∧
    (s.takeRequest r).sweep = s.sweep ∧ (s.takeRequest r).driver = s.driver ∧ (s.takeRequest r).monitor = s.monitor ∧
    (s.takeRequest r).arb = s.arb ∧ (s.takeRequest r).due = s.due ∧ (s.takeRequest r).role = s.role ∧
    (s.takeRequest r).now = s.now := by
  unfold takeRequest; split <;> simp

@[simp] theorem assemble_frame (s : State) (w : Word) :
    (s.assemble w).pending = s.pending ∧ (s.assemble w).clock = s.clock ∧ (s.assemble w).resetLow = s.resetLow ∧
    (s.assemble w).letter = s.letter ∧ (s.assemble w).busData = s.busData ∧
    (s.assemble w).req.completions = s.req.completions ∧ (s.assemble w).req.running = s.req.running ∧
    (s.assemble w).req.readPos = s.req.readPos ∧ (s.assemble w).req.enable = s.req.enable ∧
    (s.assemble w).req.counters = s.req.counters ∧ (s.assemble w).cfg = s.cfg ∧ (s.assemble w).table = s.table ∧
    (s.assemble w).aging = s.aging ∧ (s.assemble w).pool = s.pool ∧ (s.assemble w).dq = s.dq ∧
    (s.assemble w).port = s.port ∧ (s.assemble w).hello = s.hello ∧ (s.assemble w).sweep = s.sweep ∧
    (s.assemble w).driver = s.driver ∧ (s.assemble w).monitor = s.monitor ∧ (s.assemble w).arb = s.arb ∧
    (s.assemble w).due = s.due ∧ (s.assemble w).role = s.role ∧ (s.assemble w).now = s.now := by
  unfold assemble; dsimp only; (repeat' split) <;> simp

@[simp] theorem advanceCompletion_frame (s : State) :
    (s.advanceCompletion).pending = s.pending ∧ (s.advanceCompletion).clock = s.clock ∧
    (s.advanceCompletion).resetLow = s.resetLow ∧ (s.advanceCompletion).letter = s.letter ∧
    (s.advanceCompletion).busData = s.busData ∧ (s.advanceCompletion).req.queue = s.req.queue ∧
    (s.advanceCompletion).req.running = s.req.running ∧ (s.advanceCompletion).req.assembling = s.req.assembling ∧
    (s.advanceCompletion).req.latch = s.req.latch ∧ (s.advanceCompletion).req.enable = s.req.enable ∧
    (s.advanceCompletion).req.drops = s.req.drops ∧ (s.advanceCompletion).req.counters = s.req.counters ∧
    (s.advanceCompletion).cfg = s.cfg ∧ (s.advanceCompletion).table = s.table ∧
    (s.advanceCompletion).aging = s.aging ∧ (s.advanceCompletion).pool = s.pool ∧ (s.advanceCompletion).dq = s.dq ∧
    (s.advanceCompletion).port = s.port ∧ (s.advanceCompletion).hello = s.hello ∧
    (s.advanceCompletion).sweep = s.sweep ∧ (s.advanceCompletion).driver = s.driver ∧
    (s.advanceCompletion).monitor = s.monitor ∧ (s.advanceCompletion).arb = s.arb ∧
    (s.advanceCompletion).due = s.due ∧ (s.advanceCompletion).role = s.role ∧ (s.advanceCompletion).now = s.now := by
  unfold advanceCompletion; (repeat' split) <;> simp

end State

end Sys2Proof.Machine
end

