-- ==== Sys2Proof/Laws/FrameRequests.lean ====
section
/-! SUPPORT. What each operation of the requests leaves as it was: one lemma per operation, so that no later
proof unfolds one to carry a field across it. -/

namespace Sys2Proof.Machine

namespace State

@[simp] theorem grantPort_frame (s : State) (o : InsertOperands) (nat : Option NatPart) :
    (s.grantPort o nat).pending = s.pending ∧ (s.grantPort o nat).clock = s.clock ∧
    (s.grantPort o nat).resetLow = s.resetLow ∧ (s.grantPort o nat).letter = s.letter ∧
    (s.grantPort o nat).busData = s.busData ∧ (s.grantPort o nat).req.queue = s.req.queue ∧
    (s.grantPort o nat).req.completions = s.req.completions ∧ (s.grantPort o nat).req.running = s.req.running ∧
    (s.grantPort o nat).req.assembling = s.req.assembling ∧ (s.grantPort o nat).req.readPos = s.req.readPos ∧
    (s.grantPort o nat).req.enable = s.req.enable ∧ (s.grantPort o nat).req.drops = s.req.drops ∧
    (s.grantPort o nat).req.counters = s.req.counters ∧ (s.grantPort o nat).cfg = s.cfg ∧
    (s.grantPort o nat).table = s.table ∧ (s.grantPort o nat).aging = s.aging ∧
    (s.grantPort o nat).pool.laneMode = s.pool.laneMode ∧ (s.grantPort o nat).pool.addrCount = s.pool.addrCount ∧
    (s.grantPort o nat).pool.staticBlocks = s.pool.staticBlocks ∧ (s.grantPort o nat).dq = s.dq ∧
    (s.grantPort o nat).port = s.port ∧ (s.grantPort o nat).hello = s.hello ∧ (s.grantPort o nat).sweep = s.sweep ∧
    (s.grantPort o nat).driver = s.driver ∧ (s.grantPort o nat).monitor = s.monitor ∧
    (s.grantPort o nat).arb = s.arb ∧ (s.grantPort o nat).due = s.due ∧ (s.grantPort o nat).role = s.role ∧
    (s.grantPort o nat).now = s.now ∧ (s.grantPort o nat).up = s.up := by
  unfold grantPort; (repeat' split) <;> simp

@[simp] theorem place_frame (s : State) (i : Nat) (o : InsertOperands) (nat : Option NatPart) :
    (s.place i o nat).pending = s.pending ∧ (s.place i o nat).clock = s.clock ∧
    (s.place i o nat).resetLow = s.resetLow ∧ (s.place i o nat).letter = s.letter ∧
    (s.place i o nat).busData = s.busData ∧ (s.place i o nat).req.queue = s.req.queue ∧
    (s.place i o nat).req.completions = s.req.completions ∧ (s.place i o nat).req.running = s.req.running ∧
    (s.place i o nat).req.assembling = s.req.assembling ∧ (s.place i o nat).req.readPos = s.req.readPos ∧
    (s.place i o nat).req.enable = s.req.enable ∧ (s.place i o nat).req.drops = s.req.drops ∧
    (s.place i o nat).cfg = s.cfg ∧ (s.place i o nat).aging = s.aging ∧
    (s.place i o nat).pool.laneMode = s.pool.laneMode ∧ (s.place i o nat).pool.addrCount = s.pool.addrCount ∧
    (s.place i o nat).pool.staticBlocks = s.pool.staticBlocks ∧ (s.place i o nat).dq.catchup = s.dq.catchup ∧
    (s.place i o nat).dq.catchupCursor = s.dq.catchupCursor ∧ (s.place i o nat).port = s.port ∧
    (s.place i o nat).hello = s.hello ∧ (s.place i o nat).sweep = s.sweep ∧ (s.place i o nat).driver = s.driver ∧
    (s.place i o nat).monitor = s.monitor ∧ (s.place i o nat).arb = s.arb ∧ (s.place i o nat).due = s.due ∧
    (s.place i o nat).role = s.role ∧ (s.place i o nat).now = s.now ∧ (s.place i o nat).up = s.up := by
  simp [place, role, up]

@[simp] theorem touchRefresh_frame (s : State) (i : Nat) (o : TouchOperands) (r : Record) :
    (s.touchRefresh i o r).pending = s.pending ∧ (s.touchRefresh i o r).clock = s.clock ∧
    (s.touchRefresh i o r).resetLow = s.resetLow ∧ (s.touchRefresh i o r).letter = s.letter ∧
    (s.touchRefresh i o r).busData = s.busData ∧ (s.touchRefresh i o r).req.queue = s.req.queue ∧
    (s.touchRefresh i o r).req.completions = s.req.completions ∧ (s.touchRefresh i o r).req.running = s.req.running ∧
    (s.touchRefresh i o r).req.assembling = s.req.assembling ∧ (s.touchRefresh i o r).req.readPos = s.req.readPos ∧
    (s.touchRefresh i o r).req.enable = s.req.enable ∧ (s.touchRefresh i o r).req.drops = s.req.drops ∧
    (s.touchRefresh i o r).cfg = s.cfg ∧ (s.touchRefresh i o r).aging = s.aging ∧
    (s.touchRefresh i o r).pool = s.pool ∧ (s.touchRefresh i o r).dq.catchup = s.dq.catchup ∧
    (s.touchRefresh i o r).dq.catchupCursor = s.dq.catchupCursor ∧ (s.touchRefresh i o r).port = s.port ∧
    (s.touchRefresh i o r).hello = s.hello ∧ (s.touchRefresh i o r).sweep = s.sweep ∧
    (s.touchRefresh i o r).driver = s.driver ∧ (s.touchRefresh i o r).monitor = s.monitor ∧
    (s.touchRefresh i o r).arb = s.arb ∧ (s.touchRefresh i o r).due = s.due ∧ (s.touchRefresh i o r).role = s.role ∧
    (s.touchRefresh i o r).now = s.now ∧ (s.touchRefresh i o r).up = s.up := by
  unfold touchRefresh; dsimp only; (repeat' split) <;> simp

@[simp] theorem checkEffects_frame (s : State) (i : Nat) (r : Record) (p : TcpPart) (g : Segment) (v : Verdict) :
    (s.checkEffects i r p g v).pending = s.pending ∧ (s.checkEffects i r p g v).clock = s.clock ∧
    (s.checkEffects i r p g v).resetLow = s.resetLow ∧ (s.checkEffects i r p g v).letter = s.letter ∧
    (s.checkEffects i r p g v).busData = s.busData ∧ (s.checkEffects i r p g v).req = s.req ∧
    (s.checkEffects i r p g v).cfg = s.cfg ∧ (s.checkEffects i r p g v).aging = s.aging ∧
    (s.checkEffects i r p g v).pool = s.pool ∧ (s.checkEffects i r p g v).dq = s.dq ∧
    (s.checkEffects i r p g v).port = s.port ∧ (s.checkEffects i r p g v).hello = s.hello ∧
    (s.checkEffects i r p g v).sweep = s.sweep ∧ (s.checkEffects i r p g v).driver = s.driver ∧
    (s.checkEffects i r p g v).monitor = s.monitor ∧ (s.checkEffects i r p g v).arb = s.arb ∧
    (s.checkEffects i r p g v).due = s.due ∧ (s.checkEffects i r p g v).role = s.role ∧
    (s.checkEffects i r p g v).now = s.now ∧ (s.checkEffects i r p g v).up = s.up := by
  unfold checkEffects; split <;> simp [role, up]

@[simp] theorem runInsert_frame (s : State) (q : Request) :
    (s.runInsert q).pending = s.pending ∧ (s.runInsert q).clock = s.clock ∧ (s.runInsert q).resetLow = s.resetLow ∧
    (s.runInsert q).letter = s.letter ∧ (s.runInsert q).busData = s.busData ∧
    (s.runInsert q).req.queue = s.req.queue ∧ (s.runInsert q).req.running = s.req.running ∧
    (s.runInsert q).req.assembling = s.req.assembling ∧ (s.runInsert q).req.readPos = s.req.readPos ∧
    (s.runInsert q).req.enable = s.req.enable ∧ (s.runInsert q).req.drops = s.req.drops ∧
    (s.runInsert q).cfg = s.cfg ∧ (s.runInsert q).aging = s.aging ∧ (s.runInsert q).pool.laneMode = s.pool.laneMode ∧
    (s.runInsert q).pool.addrCount = s.pool.addrCount ∧ (s.runInsert q).pool.staticBlocks = s.pool.staticBlocks ∧
    (s.runInsert q).dq.catchup = s.dq.catchup ∧ (s.runInsert q).dq.catchupCursor = s.dq.catchupCursor ∧
    (s.runInsert q).port = s.port ∧ (s.runInsert q).hello = s.hello ∧ (s.runInsert q).sweep = s.sweep ∧
    (s.runInsert q).driver = s.driver ∧ (s.runInsert q).monitor = s.monitor ∧ (s.runInsert q).arb = s.arb ∧
    (s.runInsert q).due = s.due ∧ (s.runInsert q).role = s.role ∧ (s.runInsert q).now = s.now ∧
    (s.runInsert q).up = s.up := by
  unfold runInsert; dsimp only; (repeat' split) <;> simp

@[simp] theorem runLookup_frame (s : State) (q : Request) :
    (s.runLookup q).pending = s.pending ∧ (s.runLookup q).clock = s.clock ∧ (s.runLookup q).resetLow = s.resetLow ∧
    (s.runLookup q).letter = s.letter ∧ (s.runLookup q).busData = s.busData ∧
    (s.runLookup q).req.queue = s.req.queue ∧ (s.runLookup q).req.running = s.req.running ∧
    (s.runLookup q).req.assembling = s.req.assembling ∧ (s.runLookup q).req.readPos = s.req.readPos ∧
    (s.runLookup q).req.enable = s.req.enable ∧ (s.runLookup q).req.drops = s.req.drops ∧
    (s.runLookup q).req.counters = s.req.counters ∧ (s.runLookup q).cfg = s.cfg ∧ (s.runLookup q).table = s.table ∧
    (s.runLookup q).aging = s.aging ∧ (s.runLookup q).pool = s.pool ∧ (s.runLookup q).dq = s.dq ∧
    (s.runLookup q).port = s.port ∧ (s.runLookup q).hello = s.hello ∧ (s.runLookup q).sweep = s.sweep ∧
    (s.runLookup q).driver = s.driver ∧ (s.runLookup q).monitor = s.monitor ∧ (s.runLookup q).arb = s.arb ∧
    (s.runLookup q).due = s.due ∧ (s.runLookup q).role = s.role ∧ (s.runLookup q).now = s.now ∧
    (s.runLookup q).up = s.up := by
  unfold runLookup; (repeat' split) <;> simp

@[simp] theorem runReadSlot_frame (s : State) (q : Request) :
    (s.runReadSlot q).pending = s.pending ∧ (s.runReadSlot q).clock = s.clock ∧
    (s.runReadSlot q).resetLow = s.resetLow ∧ (s.runReadSlot q).letter = s.letter ∧
    (s.runReadSlot q).busData = s.busData ∧ (s.runReadSlot q).req.queue = s.req.queue ∧
    (s.runReadSlot q).req.running = s.req.running ∧ (s.runReadSlot q).req.assembling = s.req.assembling ∧
    (s.runReadSlot q).req.readPos = s.req.readPos ∧ (s.runReadSlot q).req.enable = s.req.enable ∧
    (s.runReadSlot q).req.drops = s.req.drops ∧ (s.runReadSlot q).req.counters = s.req.counters ∧
    (s.runReadSlot q).cfg = s.cfg ∧ (s.runReadSlot q).table = s.table ∧ (s.runReadSlot q).aging = s.aging ∧
    (s.runReadSlot q).pool = s.pool ∧ (s.runReadSlot q).dq = s.dq ∧ (s.runReadSlot q).port = s.port ∧
    (s.runReadSlot q).hello = s.hello ∧ (s.runReadSlot q).sweep = s.sweep ∧ (s.runReadSlot q).driver = s.driver ∧
    (s.runReadSlot q).monitor = s.monitor ∧ (s.runReadSlot q).arb = s.arb ∧ (s.runReadSlot q).due = s.due ∧
    (s.runReadSlot q).role = s.role ∧ (s.runReadSlot q).now = s.now ∧ (s.runReadSlot q).up = s.up := by
  unfold runReadSlot; dsimp only; split <;> simp

@[simp] theorem runUpdate_frame (s : State) (q : Request) :
    (s.runUpdate q).pending = s.pending ∧ (s.runUpdate q).clock = s.clock ∧ (s.runUpdate q).resetLow = s.resetLow ∧
    (s.runUpdate q).letter = s.letter ∧ (s.runUpdate q).busData = s.busData ∧
    (s.runUpdate q).req.queue = s.req.queue ∧ (s.runUpdate q).req.running = s.req.running ∧
    (s.runUpdate q).req.assembling = s.req.assembling ∧ (s.runUpdate q).req.readPos = s.req.readPos ∧
    (s.runUpdate q).req.enable = s.req.enable ∧ (s.runUpdate q).req.drops = s.req.drops ∧
    (s.runUpdate q).cfg = s.cfg ∧ (s.runUpdate q).aging = s.aging ∧ (s.runUpdate q).pool = s.pool ∧
    (s.runUpdate q).dq.catchup = s.dq.catchup ∧ (s.runUpdate q).dq.catchupCursor = s.dq.catchupCursor ∧
    (s.runUpdate q).port = s.port ∧ (s.runUpdate q).hello = s.hello ∧ (s.runUpdate q).sweep = s.sweep ∧
    (s.runUpdate q).driver = s.driver ∧ (s.runUpdate q).monitor = s.monitor ∧ (s.runUpdate q).arb = s.arb ∧
    (s.runUpdate q).due = s.due ∧ (s.runUpdate q).role = s.role ∧ (s.runUpdate q).now = s.now ∧
    (s.runUpdate q).up = s.up := by
  unfold runUpdate; dsimp only; (repeat' split) <;> simp [role, up]

@[simp] theorem runTouch_frame (s : State) (q : Request) :
    (s.runTouch q).pending = s.pending ∧ (s.runTouch q).clock = s.clock ∧ (s.runTouch q).resetLow = s.resetLow ∧
    (s.runTouch q).letter = s.letter ∧ (s.runTouch q).busData = s.busData ∧ (s.runTouch q).req.queue = s.req.queue ∧
    (s.runTouch q).req.running = s.req.running ∧ (s.runTouch q).req.assembling = s.req.assembling ∧
    (s.runTouch q).req.readPos = s.req.readPos ∧ (s.runTouch q).req.enable = s.req.enable ∧
    (s.runTouch q).req.drops = s.req.drops ∧ (s.runTouch q).cfg = s.cfg ∧ (s.runTouch q).aging = s.aging ∧
    (s.runTouch q).pool = s.pool ∧ (s.runTouch q).dq.catchup = s.dq.catchup ∧
    (s.runTouch q).dq.catchupCursor = s.dq.catchupCursor ∧ (s.runTouch q).port = s.port ∧
    (s.runTouch q).hello = s.hello ∧ (s.runTouch q).sweep = s.sweep ∧ (s.runTouch q).driver = s.driver ∧
    (s.runTouch q).monitor = s.monitor ∧ (s.runTouch q).arb = s.arb ∧ (s.runTouch q).due = s.due ∧
    (s.runTouch q).role = s.role ∧ (s.runTouch q).now = s.now ∧ (s.runTouch q).up = s.up := by
  unfold runTouch; dsimp only; (repeat' split) <;> simp [role, up]

@[simp] theorem runRemove_frame (s : State) (q : Request) :
    (s.runRemove q).pending = s.pending ∧ (s.runRemove q).clock = s.clock ∧ (s.runRemove q).resetLow = s.resetLow ∧
    (s.runRemove q).letter = s.letter ∧ (s.runRemove q).busData = s.busData ∧
    (s.runRemove q).req.queue = s.req.queue ∧ (s.runRemove q).req.running = s.req.running ∧
    (s.runRemove q).req.assembling = s.req.assembling ∧ (s.runRemove q).req.readPos = s.req.readPos ∧
    (s.runRemove q).req.enable = s.req.enable ∧ (s.runRemove q).req.drops = s.req.drops ∧
    (s.runRemove q).cfg = s.cfg ∧ (s.runRemove q).aging = s.aging ∧ (s.runRemove q).pool.laneMode = s.pool.laneMode ∧
    (s.runRemove q).pool.addrCount = s.pool.addrCount ∧ (s.runRemove q).pool.staticBlocks = s.pool.staticBlocks ∧
    (s.runRemove q).dq.catchup = s.dq.catchup ∧ (s.runRemove q).dq.catchupCursor = s.dq.catchupCursor ∧
    (s.runRemove q).port = s.port ∧ (s.runRemove q).hello = s.hello ∧ (s.runRemove q).sweep = s.sweep ∧
    (s.runRemove q).driver = s.driver ∧ (s.runRemove q).monitor = s.monitor ∧ (s.runRemove q).arb = s.arb ∧
    (s.runRemove q).due = s.due ∧ (s.runRemove q).role = s.role ∧ (s.runRemove q).now = s.now ∧
    (s.runRemove q).up = s.up := by
  unfold runRemove; dsimp only; (repeat' split) <;> simp

@[simp] theorem judgeSlot_frame (s : State) (q : Request) (i : Nat) (dir : Direction) :
    (s.judgeSlot q i dir).pending = s.pending ∧ (s.judgeSlot q i dir).clock = s.clock ∧
    (s.judgeSlot q i dir).resetLow = s.resetLow ∧ (s.judgeSlot q i dir).letter = s.letter ∧
    (s.judgeSlot q i dir).busData = s.busData ∧ (s.judgeSlot q i dir).req.queue = s.req.queue ∧
    (s.judgeSlot q i dir).req.running = s.req.running ∧ (s.judgeSlot q i dir).req.assembling = s.req.assembling ∧
    (s.judgeSlot q i dir).req.readPos = s.req.readPos ∧ (s.judgeSlot q i dir).req.enable = s.req.enable ∧
    (s.judgeSlot q i dir).req.drops = s.req.drops ∧ (s.judgeSlot q i dir).req.counters = s.req.counters ∧
    (s.judgeSlot q i dir).cfg = s.cfg ∧ (s.judgeSlot q i dir).aging = s.aging ∧ (s.judgeSlot q i dir).pool = s.pool ∧
    (s.judgeSlot q i dir).dq = s.dq ∧ (s.judgeSlot q i dir).port = s.port ∧ (s.judgeSlot q i dir).hello = s.hello ∧
    (s.judgeSlot q i dir).sweep = s.sweep ∧ (s.judgeSlot q i dir).driver = s.driver ∧
    (s.judgeSlot q i dir).monitor = s.monitor ∧ (s.judgeSlot q i dir).arb = s.arb ∧
    (s.judgeSlot q i dir).due = s.due ∧ (s.judgeSlot q i dir).role = s.role ∧ (s.judgeSlot q i dir).now = s.now ∧
    (s.judgeSlot q i dir).up = s.up := by
  unfold judgeSlot; dsimp only; split <;> simp

@[simp] theorem runCheck_frame (s : State) (q : Request) :
    (s.runCheck q).pending = s.pending ∧ (s.runCheck q).clock = s.clock ∧ (s.runCheck q).resetLow = s.resetLow ∧
    (s.runCheck q).letter = s.letter ∧ (s.runCheck q).busData = s.busData ∧ (s.runCheck q).req.queue = s.req.queue ∧
    (s.runCheck q).req.running = s.req.running ∧ (s.runCheck q).req.assembling = s.req.assembling ∧
    (s.runCheck q).req.readPos = s.req.readPos ∧ (s.runCheck q).req.enable = s.req.enable ∧
    (s.runCheck q).req.drops = s.req.drops ∧ (s.runCheck q).req.counters = s.req.counters ∧
    (s.runCheck q).cfg = s.cfg ∧ (s.runCheck q).aging = s.aging ∧ (s.runCheck q).pool = s.pool ∧
    (s.runCheck q).dq = s.dq ∧ (s.runCheck q).port = s.port ∧ (s.runCheck q).hello = s.hello ∧
    (s.runCheck q).sweep = s.sweep ∧ (s.runCheck q).driver = s.driver ∧ (s.runCheck q).monitor = s.monitor ∧
    (s.runCheck q).arb = s.arb ∧ (s.runCheck q).due = s.due ∧ (s.runCheck q).role = s.role ∧
    (s.runCheck q).now = s.now ∧ (s.runCheck q).up = s.up := by
  unfold runCheck; (repeat' split) <;> simp

@[simp] theorem beginLoopTest_frame (s : State) (q : Request) (far : Bool) :
    (s.beginLoopTest q far).pending = s.pending ∧ (s.beginLoopTest q far).clock = s.clock ∧
    (s.beginLoopTest q far).resetLow = s.resetLow ∧ (s.beginLoopTest q far).letter = s.letter ∧
    (s.beginLoopTest q far).busData = s.busData ∧ (s.beginLoopTest q far).req.queue = s.req.queue ∧
    (s.beginLoopTest q far).req.completions = s.req.completions ∧
    (s.beginLoopTest q far).req.assembling = s.req.assembling ∧ (s.beginLoopTest q far).req.readPos = s.req.readPos ∧
    (s.beginLoopTest q far).req.latch = s.req.latch ∧ (s.beginLoopTest q far).req.enable = s.req.enable ∧
    (s.beginLoopTest q far).req.drops = s.req.drops ∧ (s.beginLoopTest q far).req.counters = s.req.counters ∧
    (s.beginLoopTest q far).cfg = s.cfg ∧ (s.beginLoopTest q far).table = s.table ∧
    (s.beginLoopTest q far).aging = s.aging ∧ (s.beginLoopTest q far).pool = s.pool ∧
    (s.beginLoopTest q far).dq = s.dq ∧ (s.beginLoopTest q far).port.link = s.port.link ∧
    (s.beginLoopTest q far).port.inFlight = s.port.inFlight ∧ (s.beginLoopTest q far).port.carrier = s.port.carrier ∧
    (s.beginLoopTest q far).port.nextSeq = s.port.nextSeq ∧ (s.beginLoopTest q far).port.expected = s.port.expected ∧
    (s.beginLoopTest q far).port.heartbeat = s.port.heartbeat ∧
    (s.beginLoopTest q far).port.silence = s.port.silence ∧ (s.beginLoopTest q far).port.lastEnd = s.port.lastEnd ∧
    (s.beginLoopTest q far).port.applying = s.port.applying ∧
    (s.beginLoopTest q far).port.sweepBegin = s.port.sweepBegin ∧
    (s.beginLoopTest q far).port.sweepEnd = s.port.sweepEnd ∧
    (s.beginLoopTest q far).port.yieldMarker = s.port.yieldMarker ∧ (s.beginLoopTest q far).hello = s.hello ∧
    (s.beginLoopTest q far).sweep = s.sweep ∧ (s.beginLoopTest q far).driver = s.driver ∧
    (s.beginLoopTest q far).monitor = s.monitor ∧ (s.beginLoopTest q far).arb = s.arb ∧
    (s.beginLoopTest q far).due = s.due ∧ (s.beginLoopTest q far).role = s.role ∧
    (s.beginLoopTest q far).now = s.now ∧ (s.beginLoopTest q far).up = s.up := by
  simp [beginLoopTest, role, up]

@[simp] theorem runLoopTestInternal_frame (s : State) (q : Request) :
    (s.runLoopTestInternal q).pending = s.pending ∧ (s.runLoopTestInternal q).clock = s.clock ∧
    (s.runLoopTestInternal q).resetLow = s.resetLow ∧ (s.runLoopTestInternal q).letter = s.letter ∧
    (s.runLoopTestInternal q).busData = s.busData ∧ (s.runLoopTestInternal q).req.queue = s.req.queue ∧
    (s.runLoopTestInternal q).req.assembling = s.req.assembling ∧
    (s.runLoopTestInternal q).req.readPos = s.req.readPos ∧ (s.runLoopTestInternal q).req.enable = s.req.enable ∧
    (s.runLoopTestInternal q).req.drops = s.req.drops ∧ (s.runLoopTestInternal q).req.counters = s.req.counters ∧
    (s.runLoopTestInternal q).cfg = s.cfg ∧ (s.runLoopTestInternal q).table = s.table ∧
    (s.runLoopTestInternal q).aging = s.aging ∧ (s.runLoopTestInternal q).pool = s.pool ∧
    (s.runLoopTestInternal q).dq = s.dq ∧ (s.runLoopTestInternal q).port.inFlight = s.port.inFlight ∧
    (s.runLoopTestInternal q).port.carrier = s.port.carrier ∧
    (s.runLoopTestInternal q).port.nextSeq = s.port.nextSeq ∧
    (s.runLoopTestInternal q).port.expected = s.port.expected ∧
    (s.runLoopTestInternal q).port.heartbeat = s.port.heartbeat ∧
    (s.runLoopTestInternal q).port.silence = s.port.silence ∧
    (s.runLoopTestInternal q).port.lastEnd = s.port.lastEnd ∧
    (s.runLoopTestInternal q).port.applying = s.port.applying ∧
    (s.runLoopTestInternal q).port.sweepBegin = s.port.sweepBegin ∧
    (s.runLoopTestInternal q).port.sweepEnd = s.port.sweepEnd ∧
    (s.runLoopTestInternal q).port.yieldMarker = s.port.yieldMarker ∧ (s.runLoopTestInternal q).hello = s.hello ∧
    (s.runLoopTestInternal q).sweep = s.sweep ∧ (s.runLoopTestInternal q).driver = s.driver ∧
    (s.runLoopTestInternal q).monitor = s.monitor ∧ (s.runLoopTestInternal q).arb = s.arb ∧
    (s.runLoopTestInternal q).due = s.due ∧ (s.runLoopTestInternal q).role = s.role ∧
    (s.runLoopTestInternal q).now = s.now := by
  unfold runLoopTestInternal; split <;> simp

@[simp] theorem runLoopTestFar_frame (s : State) (q : Request) :
    (s.runLoopTestFar q).pending = s.pending ∧ (s.runLoopTestFar q).clock = s.clock ∧
    (s.runLoopTestFar q).resetLow = s.resetLow ∧ (s.runLoopTestFar q).letter = s.letter ∧
    (s.runLoopTestFar q).busData = s.busData ∧ (s.runLoopTestFar q).req.queue = s.req.queue ∧
    (s.runLoopTestFar q).req.assembling = s.req.assembling ∧ (s.runLoopTestFar q).req.readPos = s.req.readPos ∧
    (s.runLoopTestFar q).req.enable = s.req.enable ∧ (s.runLoopTestFar q).req.drops = s.req.drops ∧
    (s.runLoopTestFar q).req.counters = s.req.counters ∧ (s.runLoopTestFar q).cfg = s.cfg ∧
    (s.runLoopTestFar q).table = s.table ∧ (s.runLoopTestFar q).aging = s.aging ∧
    (s.runLoopTestFar q).pool = s.pool ∧ (s.runLoopTestFar q).dq = s.dq ∧
    (s.runLoopTestFar q).port.link = s.port.link ∧ (s.runLoopTestFar q).port.inFlight = s.port.inFlight ∧
    (s.runLoopTestFar q).port.carrier = s.port.carrier ∧ (s.runLoopTestFar q).port.nextSeq = s.port.nextSeq ∧
    (s.runLoopTestFar q).port.expected = s.port.expected ∧ (s.runLoopTestFar q).port.heartbeat = s.port.heartbeat ∧
    (s.runLoopTestFar q).port.silence = s.port.silence ∧ (s.runLoopTestFar q).port.lastEnd = s.port.lastEnd ∧
    (s.runLoopTestFar q).port.applying = s.port.applying ∧
    (s.runLoopTestFar q).port.sweepBegin = s.port.sweepBegin ∧ (s.runLoopTestFar q).port.sweepEnd = s.port.sweepEnd ∧
    (s.runLoopTestFar q).port.yieldMarker = s.port.yieldMarker ∧ (s.runLoopTestFar q).hello = s.hello ∧
    (s.runLoopTestFar q).sweep = s.sweep ∧ (s.runLoopTestFar q).driver = s.driver ∧
    (s.runLoopTestFar q).monitor = s.monitor ∧ (s.runLoopTestFar q).arb = s.arb ∧ (s.runLoopTestFar q).due = s.due ∧
    (s.runLoopTestFar q).role = s.role ∧ (s.runLoopTestFar q).now = s.now ∧ (s.runLoopTestFar q).up = s.up := by
  unfold runLoopTestFar; split <;> simp

@[simp] theorem runRetryPair_frame (s : State) (q : Request) :
    (s.runRetryPair q).pending = s.pending ∧ (s.runRetryPair q).clock = s.clock ∧
    (s.runRetryPair q).resetLow = s.resetLow ∧ (s.runRetryPair q).letter = s.letter ∧
    (s.runRetryPair q).busData = s.busData ∧ (s.runRetryPair q).req.queue = s.req.queue ∧
    (s.runRetryPair q).req.running = s.req.running ∧ (s.runRetryPair q).req.assembling = s.req.assembling ∧
    (s.runRetryPair q).req.readPos = s.req.readPos ∧ (s.runRetryPair q).req.enable = s.req.enable ∧
    (s.runRetryPair q).req.drops = s.req.drops ∧ (s.runRetryPair q).req.counters = s.req.counters ∧
    (s.runRetryPair q).cfg = s.cfg ∧ (s.runRetryPair q).table = s.table ∧ (s.runRetryPair q).aging = s.aging ∧
    (s.runRetryPair q).pool = s.pool ∧ (s.runRetryPair q).dq = s.dq ∧
    (s.runRetryPair q).port.inFlight = s.port.inFlight ∧ (s.runRetryPair q).port.carrier = s.port.carrier ∧
    (s.runRetryPair q).port.nextSeq = s.port.nextSeq ∧ (s.runRetryPair q).port.expected = s.port.expected ∧
    (s.runRetryPair q).port.heartbeat = s.port.heartbeat ∧ (s.runRetryPair q).port.silence = s.port.silence ∧
    (s.runRetryPair q).port.lastEnd = s.port.lastEnd ∧
    (s.runRetryPair q).port.applying = s.port.applying ∧ (s.runRetryPair q).port.sweepBegin = s.port.sweepBegin ∧
    (s.runRetryPair q).port.sweepEnd = s.port.sweepEnd ∧ (s.runRetryPair q).port.yieldMarker = s.port.yieldMarker ∧
    (s.runRetryPair q).hello.ackExchange = s.hello.ackExchange ∧ (s.runRetryPair q).hello.refusal = s.hello.refusal ∧
    (s.runRetryPair q).sweep = s.sweep ∧ (s.runRetryPair q).driver = s.driver ∧
    (s.runRetryPair q).monitor = s.monitor ∧ (s.runRetryPair q).arb = s.arb ∧ (s.runRetryPair q).due = s.due ∧
    (s.runRetryPair q).role = s.role ∧ (s.runRetryPair q).now = s.now := by
  unfold runRetryPair; split <;> simp

@[simp] theorem setHealth_frame (s : State) (level : Nat) :
    (s.setHealth level).pending = s.pending ∧ (s.setHealth level).clock = s.clock ∧
    (s.setHealth level).resetLow = s.resetLow ∧ (s.setHealth level).letter = s.letter ∧
    (s.setHealth level).busData = s.busData ∧ (s.setHealth level).req = s.req ∧ (s.setHealth level).cfg = s.cfg ∧
    (s.setHealth level).table = s.table ∧ (s.setHealth level).aging = s.aging ∧ (s.setHealth level).pool = s.pool ∧
    (s.setHealth level).dq = s.dq ∧ (s.setHealth level).port.link = s.port.link ∧
    (s.setHealth level).port.inFlight = s.port.inFlight ∧ (s.setHealth level).port.carrier = s.port.carrier ∧
    (s.setHealth level).port.nextSeq = s.port.nextSeq ∧ (s.setHealth level).port.expected = s.port.expected ∧
    (s.setHealth level).port.heartbeat = s.port.heartbeat ∧ (s.setHealth level).port.silence = s.port.silence ∧
    (s.setHealth level).port.lastEnd = s.port.lastEnd ∧
    (s.setHealth level).port.applying = s.port.applying ∧ (s.setHealth level).port.sweepBegin = s.port.sweepBegin ∧
    (s.setHealth level).port.sweepEnd = s.port.sweepEnd ∧ (s.setHealth level).port.yieldMarker = s.port.yieldMarker ∧
    (s.setHealth level).hello.ackExchange = s.hello.ackExchange ∧
    (s.setHealth level).hello.refusal = s.hello.refusal ∧ (s.setHealth level).sweep = s.sweep ∧
    (s.setHealth level).driver = s.driver ∧ (s.setHealth level).monitor = s.monitor ∧
    (s.setHealth level).arb.role = s.arb.role ∧ (s.setHealth level).arb.epoch = s.arb.epoch ∧
    (s.setHealth level).arb.hold = s.arb.hold ∧ (s.setHealth level).arb.takeoverTick = s.arb.takeoverTick ∧
    (s.setHealth level).arb.grace = s.arb.grace ∧ (s.setHealth level).arb.listen = s.arb.listen ∧
    (s.setHealth level).arb.healthHold = s.arb.healthHold ∧ (s.setHealth level).arb.yieldTimer = s.arb.yieldTimer ∧
    (s.setHealth level).arb.yieldTaken = s.arb.yieldTaken ∧ (s.setHealth level).arb.yieldHanded = s.arb.yieldHanded ∧
    (s.setHealth level).arb.peer = s.arb.peer ∧ (s.setHealth level).due = s.due ∧ (s.setHealth level).role = s.role ∧
    (s.setHealth level).now = s.now ∧ (s.setHealth level).up = s.up := by
  unfold setHealth; split <;> simp [role, up]

@[simp] theorem runHealth_frame (s : State) (q : Request) :
    (s.runHealth q).pending = s.pending ∧ (s.runHealth q).clock = s.clock ∧ (s.runHealth q).resetLow = s.resetLow ∧
    (s.runHealth q).letter = s.letter ∧ (s.runHealth q).busData = s.busData ∧
    (s.runHealth q).req.queue = s.req.queue ∧ (s.runHealth q).req.running = s.req.running ∧
    (s.runHealth q).req.assembling = s.req.assembling ∧ (s.runHealth q).req.readPos = s.req.readPos ∧
    (s.runHealth q).req.enable = s.req.enable ∧ (s.runHealth q).req.drops = s.req.drops ∧
    (s.runHealth q).req.counters = s.req.counters ∧ (s.runHealth q).cfg = s.cfg ∧ (s.runHealth q).table = s.table ∧
    (s.runHealth q).aging = s.aging ∧ (s.runHealth q).pool = s.pool ∧ (s.runHealth q).dq = s.dq ∧
    (s.runHealth q).port.link = s.port.link ∧ (s.runHealth q).port.inFlight = s.port.inFlight ∧
    (s.runHealth q).port.carrier = s.port.carrier ∧ (s.runHealth q).port.nextSeq = s.port.nextSeq ∧
    (s.runHealth q).port.expected = s.port.expected ∧ (s.runHealth q).port.heartbeat = s.port.heartbeat ∧
    (s.runHealth q).port.silence = s.port.silence ∧ (s.runHealth q).port.lastEnd = s.port.lastEnd ∧
    (s.runHealth q).port.applying = s.port.applying ∧
    (s.runHealth q).port.sweepBegin = s.port.sweepBegin ∧ (s.runHealth q).port.sweepEnd = s.port.sweepEnd ∧
    (s.runHealth q).port.yieldMarker = s.port.yieldMarker ∧ (s.runHealth q).hello.ackExchange = s.hello.ackExchange ∧
    (s.runHealth q).hello.refusal = s.hello.refusal ∧ (s.runHealth q).sweep = s.sweep ∧
    (s.runHealth q).driver = s.driver ∧ (s.runHealth q).monitor = s.monitor ∧ (s.runHealth q).arb.role = s.arb.role ∧
    (s.runHealth q).arb.epoch = s.arb.epoch ∧ (s.runHealth q).arb.hold = s.arb.hold ∧
    (s.runHealth q).arb.takeoverTick = s.arb.takeoverTick ∧ (s.runHealth q).arb.grace = s.arb.grace ∧
    (s.runHealth q).arb.listen = s.arb.listen ∧ (s.runHealth q).arb.healthHold = s.arb.healthHold ∧
    (s.runHealth q).arb.yieldTimer = s.arb.yieldTimer ∧ (s.runHealth q).arb.yieldTaken = s.arb.yieldTaken ∧
    (s.runHealth q).arb.yieldHanded = s.arb.yieldHanded ∧ (s.runHealth q).arb.peer = s.arb.peer ∧
    (s.runHealth q).due = s.due ∧ (s.runHealth q).role = s.role ∧ (s.runHealth q).now = s.now ∧
    (s.runHealth q).up = s.up := by
  unfold runHealth; dsimp only; split <;> simp

@[simp] theorem completeRole_frame (s : State) (q : Request) (status : Status) :
    (s.completeRole q status).pending = s.pending ∧ (s.completeRole q status).clock = s.clock ∧
    (s.completeRole q status).resetLow = s.resetLow ∧ (s.completeRole q status).letter = s.letter ∧
    (s.completeRole q status).busData = s.busData ∧ (s.completeRole q status).req.queue = s.req.queue ∧
    (s.completeRole q status).req.running = s.req.running ∧
    (s.completeRole q status).req.assembling = s.req.assembling ∧
    (s.completeRole q status).req.readPos = s.req.readPos ∧ (s.completeRole q status).req.enable = s.req.enable ∧
    (s.completeRole q status).req.drops = s.req.drops ∧ (s.completeRole q status).req.counters = s.req.counters ∧
    (s.completeRole q status).cfg = s.cfg ∧ (s.completeRole q status).table = s.table ∧
    (s.completeRole q status).aging = s.aging ∧ (s.completeRole q status).pool = s.pool ∧
    (s.completeRole q status).dq = s.dq ∧ (s.completeRole q status).port = s.port ∧
    (s.completeRole q status).hello = s.hello ∧ (s.completeRole q status).sweep = s.sweep ∧
    (s.completeRole q status).driver = s.driver ∧ (s.completeRole q status).monitor = s.monitor ∧
    (s.completeRole q status).arb = s.arb ∧ (s.completeRole q status).due = s.due ∧
    (s.completeRole q status).role = s.role ∧ (s.completeRole q status).now = s.now ∧
    (s.completeRole q status).up = s.up := by
  unfold completeRole; simp

@[simp] theorem runForceActive_frame (s : State) (q : Request) :
    (s.runForceActive q).pending = s.pending ∧ (s.runForceActive q).clock = s.clock ∧
    (s.runForceActive q).resetLow = s.resetLow ∧ (s.runForceActive q).letter = s.letter ∧
    (s.runForceActive q).busData = s.busData ∧ (s.runForceActive q).req.queue = s.req.queue ∧
    (s.runForceActive q).req.running = s.req.running ∧ (s.runForceActive q).req.assembling = s.req.assembling ∧
    (s.runForceActive q).req.readPos = s.req.readPos ∧ (s.runForceActive q).req.enable = s.req.enable ∧
    (s.runForceActive q).req.drops = s.req.drops ∧ (s.runForceActive q).req.counters = s.req.counters ∧
    (s.runForceActive q).cfg = s.cfg ∧ (s.runForceActive q).table = s.table ∧ (s.runForceActive q).aging = s.aging ∧
    (s.runForceActive q).pool.quarantine = s.pool.quarantine ∧ (s.runForceActive q).pool.bound = s.pool.bound ∧
    (s.runForceActive q).pool.addrCount = s.pool.addrCount ∧
    (s.runForceActive q).pool.staticBlocks = s.pool.staticBlocks ∧
    (s.runForceActive q).pool.cursors = s.pool.cursors ∧ (s.runForceActive q).dq = s.dq ∧
    (s.runForceActive q).port.link = s.port.link ∧ (s.runForceActive q).port.inFlight = s.port.inFlight ∧
    (s.runForceActive q).port.carrier = s.port.carrier ∧ (s.runForceActive q).port.nextSeq = s.port.nextSeq ∧
    (s.runForceActive q).port.expected = s.port.expected ∧ (s.runForceActive q).port.silence = s.port.silence ∧
    (s.runForceActive q).port.lastEnd = s.port.lastEnd ∧
    (s.runForceActive q).port.applying = s.port.applying ∧ (s.runForceActive q).port.sweepBegin = s.port.sweepBegin ∧
    (s.runForceActive q).port.sweepEnd = s.port.sweepEnd ∧
    (s.runForceActive q).hello.ackExchange = s.hello.ackExchange ∧
    (s.runForceActive q).hello.refusal = s.hello.refusal ∧ (s.runForceActive q).sweep = s.sweep ∧
    (s.runForceActive q).monitor = s.monitor ∧ (s.runForceActive q).arb.health = s.arb.health ∧
    (s.runForceActive q).arb.hold = s.arb.hold ∧ (s.runForceActive q).arb.peer = s.arb.peer ∧
    (s.runForceActive q).due = s.due ∧ (s.runForceActive q).now = s.now ∧ (s.runForceActive q).up = s.up := by
  unfold runForceActive; (repeat' split) <;> simp

@[simp] theorem runHoldStandby_frame (s : State) (q : Request) :
    (s.runHoldStandby q).pending = s.pending ∧ (s.runHoldStandby q).clock = s.clock ∧
    (s.runHoldStandby q).resetLow = s.resetLow ∧ (s.runHoldStandby q).letter = s.letter ∧
    (s.runHoldStandby q).busData = s.busData ∧ (s.runHoldStandby q).req.queue = s.req.queue ∧
    (s.runHoldStandby q).req.running = s.req.running ∧ (s.runHoldStandby q).req.assembling = s.req.assembling ∧
    (s.runHoldStandby q).req.readPos = s.req.readPos ∧ (s.runHoldStandby q).req.enable = s.req.enable ∧
    (s.runHoldStandby q).req.drops = s.req.drops ∧ (s.runHoldStandby q).req.counters = s.req.counters ∧
    (s.runHoldStandby q).cfg = s.cfg ∧ (s.runHoldStandby q).table = s.table ∧ (s.runHoldStandby q).aging = s.aging ∧
    (s.runHoldStandby q).pool = s.pool ∧ (s.runHoldStandby q).dq = s.dq ∧ (s.runHoldStandby q).port = s.port ∧
    (s.runHoldStandby q).hello = s.hello ∧ (s.runHoldStandby q).sweep = s.sweep ∧
    (s.runHoldStandby q).driver = s.driver ∧ (s.runHoldStandby q).monitor = s.monitor ∧
    (s.runHoldStandby q).arb.role = s.arb.role ∧ (s.runHoldStandby q).arb.epoch = s.arb.epoch ∧
    (s.runHoldStandby q).arb.health = s.arb.health ∧ (s.runHoldStandby q).arb.takeoverTick = s.arb.takeoverTick ∧
    (s.runHoldStandby q).arb.grace = s.arb.grace ∧ (s.runHoldStandby q).arb.healthHold = s.arb.healthHold ∧
    (s.runHoldStandby q).arb.yieldTimer = s.arb.yieldTimer ∧ (s.runHoldStandby q).arb.yieldTaken = s.arb.yieldTaken ∧
    (s.runHoldStandby q).arb.yieldHanded = s.arb.yieldHanded ∧ (s.runHoldStandby q).arb.peer = s.arb.peer ∧
    (s.runHoldStandby q).due = s.due ∧ (s.runHoldStandby q).role = s.role ∧ (s.runHoldStandby q).now = s.now ∧
    (s.runHoldStandby q).up = s.up := by
  unfold runHoldStandby; split <;> simp [role, up]

@[simp] theorem decideReleased_frame (s : State) :
    (s.decideReleased).pending = s.pending ∧ (s.decideReleased).clock = s.clock ∧
    (s.decideReleased).resetLow = s.resetLow ∧ (s.decideReleased).letter = s.letter ∧
    (s.decideReleased).busData = s.busData ∧ (s.decideReleased).req.queue = s.req.queue ∧
    (s.decideReleased).req.completions = s.req.completions ∧ (s.decideReleased).req.running = s.req.running ∧
    (s.decideReleased).req.assembling = s.req.assembling ∧ (s.decideReleased).req.readPos = s.req.readPos ∧
    (s.decideReleased).req.enable = s.req.enable ∧ (s.decideReleased).req.drops = s.req.drops ∧
    (s.decideReleased).req.counters = s.req.counters ∧ (s.decideReleased).cfg = s.cfg ∧
    (s.decideReleased).table = s.table ∧ (s.decideReleased).aging = s.aging ∧
    (s.decideReleased).pool.quarantine = s.pool.quarantine ∧ (s.decideReleased).pool.bound = s.pool.bound ∧
    (s.decideReleased).pool.addrCount = s.pool.addrCount ∧
    (s.decideReleased).pool.staticBlocks = s.pool.staticBlocks ∧ (s.decideReleased).pool.cursors = s.pool.cursors ∧
    (s.decideReleased).dq = s.dq ∧ (s.decideReleased).port.link = s.port.link ∧
    (s.decideReleased).port.inFlight = s.port.inFlight ∧ (s.decideReleased).port.carrier = s.port.carrier ∧
    (s.decideReleased).port.nextSeq = s.port.nextSeq ∧ (s.decideReleased).port.expected = s.port.expected ∧
    (s.decideReleased).port.silence = s.port.silence ∧ (s.decideReleased).port.lastEnd = s.port.lastEnd ∧
    (s.decideReleased).port.applying = s.port.applying ∧
    (s.decideReleased).port.sweepBegin = s.port.sweepBegin ∧ (s.decideReleased).port.sweepEnd = s.port.sweepEnd ∧
    (s.decideReleased).hello.ackExchange = s.hello.ackExchange ∧ (s.decideReleased).hello.refusal = s.hello.refusal ∧
    (s.decideReleased).sweep = s.sweep ∧ (s.decideReleased).monitor = s.monitor ∧
    (s.decideReleased).arb.health = s.arb.health ∧ (s.decideReleased).arb.hold = s.arb.hold ∧
    (s.decideReleased).arb.peer = s.arb.peer ∧ (s.decideReleased).due = s.due ∧ (s.decideReleased).now = s.now ∧
    (s.decideReleased).up = s.up := by
  unfold decideReleased; (repeat' split) <;> simp [up]

@[simp] theorem runReleaseHold_frame (s : State) (q : Request) :
    (s.runReleaseHold q).pending = s.pending ∧ (s.runReleaseHold q).clock = s.clock ∧
    (s.runReleaseHold q).resetLow = s.resetLow ∧ (s.runReleaseHold q).letter = s.letter ∧
    (s.runReleaseHold q).busData = s.busData ∧ (s.runReleaseHold q).req.queue = s.req.queue ∧
    (s.runReleaseHold q).req.running = s.req.running ∧ (s.runReleaseHold q).req.assembling = s.req.assembling ∧
    (s.runReleaseHold q).req.readPos = s.req.readPos ∧ (s.runReleaseHold q).req.enable = s.req.enable ∧
    (s.runReleaseHold q).req.drops = s.req.drops ∧ (s.runReleaseHold q).req.counters = s.req.counters ∧
    (s.runReleaseHold q).cfg = s.cfg ∧ (s.runReleaseHold q).table = s.table ∧ (s.runReleaseHold q).aging = s.aging ∧
    (s.runReleaseHold q).pool.quarantine = s.pool.quarantine ∧ (s.runReleaseHold q).pool.bound = s.pool.bound ∧
    (s.runReleaseHold q).pool.addrCount = s.pool.addrCount ∧
    (s.runReleaseHold q).pool.staticBlocks = s.pool.staticBlocks ∧
    (s.runReleaseHold q).pool.cursors = s.pool.cursors ∧ (s.runReleaseHold q).dq = s.dq ∧
    (s.runReleaseHold q).port.link = s.port.link ∧ (s.runReleaseHold q).port.inFlight = s.port.inFlight ∧
    (s.runReleaseHold q).port.carrier = s.port.carrier ∧ (s.runReleaseHold q).port.nextSeq = s.port.nextSeq ∧
    (s.runReleaseHold q).port.expected = s.port.expected ∧ (s.runReleaseHold q).port.silence = s.port.silence ∧
    (s.runReleaseHold q).port.lastEnd = s.port.lastEnd ∧
    (s.runReleaseHold q).port.applying = s.port.applying ∧ (s.runReleaseHold q).port.sweepBegin = s.port.sweepBegin ∧
    (s.runReleaseHold q).port.sweepEnd = s.port.sweepEnd ∧
    (s.runReleaseHold q).hello.ackExchange = s.hello.ackExchange ∧
    (s.runReleaseHold q).hello.refusal = s.hello.refusal ∧ (s.runReleaseHold q).sweep = s.sweep ∧
    (s.runReleaseHold q).monitor = s.monitor ∧ (s.runReleaseHold q).arb.health = s.arb.health ∧
    (s.runReleaseHold q).arb.peer = s.arb.peer ∧ (s.runReleaseHold q).due = s.due ∧
    (s.runReleaseHold q).now = s.now ∧ (s.runReleaseHold q).up = s.up := by
  unfold runReleaseHold; split <;> simp

@[simp] theorem runRoleRequestYield_frame (s : State) (q : Request) :
    (s.runRoleRequestYield q).pending = s.pending ∧ (s.runRoleRequestYield q).clock = s.clock ∧
    (s.runRoleRequestYield q).resetLow = s.resetLow ∧ (s.runRoleRequestYield q).letter = s.letter ∧
    (s.runRoleRequestYield q).busData = s.busData ∧ (s.runRoleRequestYield q).req.queue = s.req.queue ∧
    (s.runRoleRequestYield q).req.running = s.req.running ∧
    (s.runRoleRequestYield q).req.assembling = s.req.assembling ∧
    (s.runRoleRequestYield q).req.readPos = s.req.readPos ∧ (s.runRoleRequestYield q).req.enable = s.req.enable ∧
    (s.runRoleRequestYield q).req.drops = s.req.drops ∧ (s.runRoleRequestYield q).req.counters = s.req.counters ∧
    (s.runRoleRequestYield q).cfg = s.cfg ∧ (s.runRoleRequestYield q).table = s.table ∧
    (s.runRoleRequestYield q).aging = s.aging ∧ (s.runRoleRequestYield q).pool = s.pool ∧
    (s.runRoleRequestYield q).dq = s.dq ∧ (s.runRoleRequestYield q).port.link = s.port.link ∧
    (s.runRoleRequestYield q).port.inFlight = s.port.inFlight ∧
    (s.runRoleRequestYield q).port.carrier = s.port.carrier ∧
    (s.runRoleRequestYield q).port.nextSeq = s.port.nextSeq ∧
    (s.runRoleRequestYield q).port.expected = s.port.expected ∧
    (s.runRoleRequestYield q).port.silence = s.port.silence ∧
    (s.runRoleRequestYield q).port.lastEnd = s.port.lastEnd ∧
    (s.runRoleRequestYield q).port.applying = s.port.applying ∧
    (s.runRoleRequestYield q).port.sweepBegin = s.port.sweepBegin ∧
    (s.runRoleRequestYield q).port.sweepEnd = s.port.sweepEnd ∧
    (s.runRoleRequestYield q).hello.ackExchange = s.hello.ackExchange ∧
    (s.runRoleRequestYield q).hello.refusal = s.hello.refusal ∧ (s.runRoleRequestYield q).sweep = s.sweep ∧
    (s.runRoleRequestYield q).monitor = s.monitor ∧ (s.runRoleRequestYield q).arb.epoch = s.arb.epoch ∧
    (s.runRoleRequestYield q).arb.health = s.arb.health ∧ (s.runRoleRequestYield q).arb.hold = s.arb.hold ∧
    (s.runRoleRequestYield q).arb.takeoverTick = s.arb.takeoverTick ∧
    (s.runRoleRequestYield q).arb.grace = s.arb.grace ∧ (s.runRoleRequestYield q).arb.listen = s.arb.listen ∧
    (s.runRoleRequestYield q).arb.yieldTaken = s.arb.yieldTaken ∧ (s.runRoleRequestYield q).arb.peer = s.arb.peer ∧
    (s.runRoleRequestYield q).due = s.due ∧ (s.runRoleRequestYield q).now = s.now ∧
    (s.runRoleRequestYield q).up = s.up := by
  unfold runRoleRequestYield; split <;> simp

@[simp] theorem bindingPass_frame (s : State) :
    (s.bindingPass).pending = s.pending ∧ (s.bindingPass).clock = s.clock ∧ (s.bindingPass).resetLow = s.resetLow ∧
    (s.bindingPass).letter = s.letter ∧ (s.bindingPass).busData = s.busData ∧
    (s.bindingPass).req.queue = s.req.queue ∧ (s.bindingPass).req.completions = s.req.completions ∧
    (s.bindingPass).req.running = s.req.running ∧ (s.bindingPass).req.assembling = s.req.assembling ∧
    (s.bindingPass).req.readPos = s.req.readPos ∧ (s.bindingPass).req.enable = s.req.enable ∧
    (s.bindingPass).req.drops = s.req.drops ∧ (s.bindingPass).req.counters = s.req.counters ∧
    (s.bindingPass).cfg = s.cfg ∧ (s.bindingPass).aging = s.aging ∧ (s.bindingPass).dq = s.dq ∧
    (s.bindingPass).port = s.port ∧ (s.bindingPass).hello = s.hello ∧ (s.bindingPass).sweep = s.sweep ∧
    (s.bindingPass).driver = s.driver ∧ (s.bindingPass).monitor = s.monitor ∧ (s.bindingPass).arb = s.arb ∧
    (s.bindingPass).due = s.due ∧ (s.bindingPass).role = s.role ∧ (s.bindingPass).now = s.now ∧
    (s.bindingPass).up = s.up := by
  unfold bindingPass; simp

@[simp] theorem start_frame (s : State) :
    (s.start).pending = s.pending ∧ (s.start).clock = s.clock ∧ (s.start).resetLow = s.resetLow ∧
    (s.start).letter = s.letter ∧ (s.start).busData = s.busData ∧ (s.start).req.queue = s.req.queue ∧
    (s.start).req.completions = s.req.completions ∧ (s.start).req.running = s.req.running ∧
    (s.start).req.assembling = s.req.assembling ∧ (s.start).req.readPos = s.req.readPos ∧
    (s.start).req.enable = s.req.enable ∧ (s.start).req.drops = s.req.drops ∧
    (s.start).req.counters = s.req.counters ∧ (s.start).cfg = s.cfg ∧ (s.start).aging = s.aging ∧
    (s.start).dq = s.dq ∧ (s.start).port.link = s.port.link ∧ (s.start).port.inFlight = s.port.inFlight ∧
    (s.start).port.carrier = s.port.carrier ∧ (s.start).port.nextSeq = s.port.nextSeq ∧
    (s.start).port.expected = s.port.expected ∧ (s.start).port.silence = s.port.silence ∧
    (s.start).port.lastEnd = s.port.lastEnd ∧
    (s.start).port.applying = s.port.applying ∧ (s.start).port.sweepBegin = s.port.sweepBegin ∧
    (s.start).port.sweepEnd = s.port.sweepEnd ∧ (s.start).hello.ackExchange = s.hello.ackExchange ∧
    (s.start).hello.refusal = s.hello.refusal ∧ (s.start).sweep = s.sweep ∧ (s.start).monitor = s.monitor ∧
    (s.start).arb.epoch = s.arb.epoch ∧ (s.start).arb.health = s.arb.health ∧ (s.start).arb.hold = s.arb.hold ∧
    (s.start).arb.takeoverTick = s.arb.takeoverTick ∧ (s.start).arb.grace = s.arb.grace ∧
    (s.start).arb.healthHold = s.arb.healthHold ∧ (s.start).arb.yieldTaken = s.arb.yieldTaken ∧
    (s.start).arb.peer = s.arb.peer ∧ (s.start).due = s.due ∧ (s.start).now = s.now ∧ (s.start).up = s.up := by
  unfold start; simp

@[simp] theorem runStart_frame (s : State) (q : Request) :
    (s.runStart q).pending = s.pending ∧ (s.runStart q).clock = s.clock ∧ (s.runStart q).resetLow = s.resetLow ∧
    (s.runStart q).letter = s.letter ∧ (s.runStart q).busData = s.busData ∧ (s.runStart q).req.queue = s.req.queue ∧
    (s.runStart q).req.running = s.req.running ∧ (s.runStart q).req.assembling = s.req.assembling ∧
    (s.runStart q).req.readPos = s.req.readPos ∧ (s.runStart q).req.enable = s.req.enable ∧
    (s.runStart q).req.drops = s.req.drops ∧ (s.runStart q).req.counters = s.req.counters ∧
    (s.runStart q).cfg = s.cfg ∧ (s.runStart q).aging = s.aging ∧ (s.runStart q).dq = s.dq ∧
    (s.runStart q).port.link = s.port.link ∧ (s.runStart q).port.inFlight = s.port.inFlight ∧
    (s.runStart q).port.carrier = s.port.carrier ∧ (s.runStart q).port.nextSeq = s.port.nextSeq ∧
    (s.runStart q).port.expected = s.port.expected ∧ (s.runStart q).port.silence = s.port.silence ∧
    (s.runStart q).port.lastEnd = s.port.lastEnd ∧
    (s.runStart q).port.applying = s.port.applying ∧ (s.runStart q).port.sweepBegin = s.port.sweepBegin ∧
    (s.runStart q).port.sweepEnd = s.port.sweepEnd ∧ (s.runStart q).hello.ackExchange = s.hello.ackExchange ∧
    (s.runStart q).hello.refusal = s.hello.refusal ∧ (s.runStart q).sweep = s.sweep ∧
    (s.runStart q).monitor = s.monitor ∧ (s.runStart q).arb.epoch = s.arb.epoch ∧
    (s.runStart q).arb.health = s.arb.health ∧ (s.runStart q).arb.hold = s.arb.hold ∧
    (s.runStart q).arb.takeoverTick = s.arb.takeoverTick ∧ (s.runStart q).arb.grace = s.arb.grace ∧
    (s.runStart q).arb.healthHold = s.arb.healthHold ∧ (s.runStart q).arb.yieldTaken = s.arb.yieldTaken ∧
    (s.runStart q).arb.peer = s.arb.peer ∧ (s.runStart q).due = s.due ∧ (s.runStart q).now = s.now ∧
    (s.runStart q).up = s.up := by
  unfold runStart; split <;> simp

@[simp] theorem writeConfig_frame (s : State) (new : ConfigRecord) :
    (s.writeConfig new).pending = s.pending ∧ (s.writeConfig new).clock = s.clock ∧
    (s.writeConfig new).resetLow = s.resetLow ∧ (s.writeConfig new).letter = s.letter ∧
    (s.writeConfig new).busData = s.busData ∧ (s.writeConfig new).req.queue = s.req.queue ∧
    (s.writeConfig new).req.completions = s.req.completions ∧ (s.writeConfig new).req.running = s.req.running ∧
    (s.writeConfig new).req.assembling = s.req.assembling ∧ (s.writeConfig new).req.readPos = s.req.readPos ∧
    (s.writeConfig new).req.enable = s.req.enable ∧ (s.writeConfig new).req.drops = s.req.drops ∧
    (s.writeConfig new).req.counters = s.req.counters ∧ (s.writeConfig new).table = s.table ∧
    (s.writeConfig new).aging = s.aging ∧ (s.writeConfig new).pool.laneMode = s.pool.laneMode ∧
    (s.writeConfig new).pool.quarantine = s.pool.quarantine ∧ (s.writeConfig new).pool.bound = s.pool.bound ∧
    (s.writeConfig new).pool.addrCount = s.pool.addrCount ∧
    (s.writeConfig new).pool.staticBlocks = s.pool.staticBlocks ∧ (s.writeConfig new).pool.cursors = s.pool.cursors ∧
    (s.writeConfig new).dq = s.dq ∧ (s.writeConfig new).port.link = s.port.link ∧
    (s.writeConfig new).port.inFlight = s.port.inFlight ∧ (s.writeConfig new).port.carrier = s.port.carrier ∧
    (s.writeConfig new).port.nextSeq = s.port.nextSeq ∧ (s.writeConfig new).port.expected = s.port.expected ∧
    (s.writeConfig new).port.heartbeat = s.port.heartbeat ∧ (s.writeConfig new).port.silence = s.port.silence ∧
    (s.writeConfig new).port.lastEnd = s.port.lastEnd ∧
    (s.writeConfig new).port.applying = s.port.applying ∧ (s.writeConfig new).port.sweepBegin = s.port.sweepBegin ∧
    (s.writeConfig new).port.sweepEnd = s.port.sweepEnd ∧ (s.writeConfig new).port.yieldMarker = s.port.yieldMarker ∧
    (s.writeConfig new).hello.ackExchange = s.hello.ackExchange ∧
    (s.writeConfig new).hello.refusal = s.hello.refusal ∧ (s.writeConfig new).sweep = s.sweep ∧
    (s.writeConfig new).driver = s.driver ∧ (s.writeConfig new).monitor = s.monitor ∧
    (s.writeConfig new).arb = s.arb ∧ (s.writeConfig new).due = s.due ∧ (s.writeConfig new).role = s.role ∧
    (s.writeConfig new).now = s.now := by
  unfold writeConfig; (repeat' split) <;> simp

@[simp] theorem runSetConfig_frame (s : State) (q : Request) :
    (s.runSetConfig q).pending = s.pending ∧ (s.runSetConfig q).clock = s.clock ∧
    (s.runSetConfig q).resetLow = s.resetLow ∧ (s.runSetConfig q).letter = s.letter ∧
    (s.runSetConfig q).busData = s.busData ∧ (s.runSetConfig q).req.queue = s.req.queue ∧
    (s.runSetConfig q).req.running = s.req.running ∧ (s.runSetConfig q).req.assembling = s.req.assembling ∧
    (s.runSetConfig q).req.readPos = s.req.readPos ∧ (s.runSetConfig q).req.enable = s.req.enable ∧
    (s.runSetConfig q).req.drops = s.req.drops ∧ (s.runSetConfig q).req.counters = s.req.counters ∧
    (s.runSetConfig q).table = s.table ∧ (s.runSetConfig q).aging = s.aging ∧
    (s.runSetConfig q).pool.laneMode = s.pool.laneMode ∧ (s.runSetConfig q).pool.quarantine = s.pool.quarantine ∧
    (s.runSetConfig q).pool.bound = s.pool.bound ∧ (s.runSetConfig q).pool.addrCount = s.pool.addrCount ∧
    (s.runSetConfig q).pool.staticBlocks = s.pool.staticBlocks ∧ (s.runSetConfig q).pool.cursors = s.pool.cursors ∧
    (s.runSetConfig q).dq = s.dq ∧ (s.runSetConfig q).port.link = s.port.link ∧
    (s.runSetConfig q).port.inFlight = s.port.inFlight ∧ (s.runSetConfig q).port.carrier = s.port.carrier ∧
    (s.runSetConfig q).port.nextSeq = s.port.nextSeq ∧ (s.runSetConfig q).port.expected = s.port.expected ∧
    (s.runSetConfig q).port.heartbeat = s.port.heartbeat ∧ (s.runSetConfig q).port.silence = s.port.silence ∧
    (s.runSetConfig q).port.lastEnd = s.port.lastEnd ∧
    (s.runSetConfig q).port.applying = s.port.applying ∧ (s.runSetConfig q).port.sweepBegin = s.port.sweepBegin ∧
    (s.runSetConfig q).port.sweepEnd = s.port.sweepEnd ∧ (s.runSetConfig q).port.yieldMarker = s.port.yieldMarker ∧
    (s.runSetConfig q).hello.ackExchange = s.hello.ackExchange ∧ (s.runSetConfig q).hello.refusal = s.hello.refusal ∧
    (s.runSetConfig q).sweep = s.sweep ∧ (s.runSetConfig q).driver = s.driver ∧
    (s.runSetConfig q).monitor = s.monitor ∧ (s.runSetConfig q).arb = s.arb ∧ (s.runSetConfig q).due = s.due ∧
    (s.runSetConfig q).role = s.role ∧ (s.runSetConfig q).now = s.now ∧ (s.runSetConfig q).up = s.up := by
  simp [runSetConfig, role, up]

@[simp] theorem runReadStatus_frame (s : State) (q : Request) :
    (s.runReadStatus q).pending = s.pending ∧ (s.runReadStatus q).clock = s.clock ∧
    (s.runReadStatus q).resetLow = s.resetLow ∧ (s.runReadStatus q).letter = s.letter ∧
    (s.runReadStatus q).busData = s.busData ∧ (s.runReadStatus q).req.queue = s.req.queue ∧
    (s.runReadStatus q).req.running = s.req.running ∧ (s.runReadStatus q).req.assembling = s.req.assembling ∧
    (s.runReadStatus q).req.readPos = s.req.readPos ∧ (s.runReadStatus q).req.enable = s.req.enable ∧
    (s.runReadStatus q).req.drops = s.req.drops ∧ (s.runReadStatus q).req.counters = s.req.counters ∧
    (s.runReadStatus q).cfg = s.cfg ∧ (s.runReadStatus q).table = s.table ∧ (s.runReadStatus q).aging = s.aging ∧
    (s.runReadStatus q).pool = s.pool ∧ (s.runReadStatus q).dq = s.dq ∧ (s.runReadStatus q).port = s.port ∧
    (s.runReadStatus q).hello = s.hello ∧ (s.runReadStatus q).sweep = s.sweep ∧
    (s.runReadStatus q).driver = s.driver ∧ (s.runReadStatus q).monitor = s.monitor ∧
    (s.runReadStatus q).arb = s.arb ∧ (s.runReadStatus q).due = s.due ∧ (s.runReadStatus q).role = s.role ∧
    (s.runReadStatus q).now = s.now ∧ (s.runReadStatus q).up = s.up := by
  unfold runReadStatus; simp

@[simp] theorem clearCounters_frame (s : State) :
    (s.clearCounters).pending = s.pending ∧ (s.clearCounters).clock = s.clock ∧
    (s.clearCounters).resetLow = s.resetLow ∧ (s.clearCounters).letter = s.letter ∧
    (s.clearCounters).busData = s.busData ∧ (s.clearCounters).req.queue = s.req.queue ∧
    (s.clearCounters).req.completions = s.req.completions ∧ (s.clearCounters).req.running = s.req.running ∧
    (s.clearCounters).req.assembling = s.req.assembling ∧ (s.clearCounters).req.readPos = s.req.readPos ∧
    (s.clearCounters).req.latch = s.req.latch ∧ (s.clearCounters).req.enable = s.req.enable ∧
    (s.clearCounters).cfg = s.cfg ∧ (s.clearCounters).table = s.table ∧ (s.clearCounters).aging = s.aging ∧
    (s.clearCounters).pool = s.pool ∧ (s.clearCounters).dq = s.dq ∧ (s.clearCounters).port = s.port ∧
    (s.clearCounters).hello = s.hello ∧ (s.clearCounters).sweep = s.sweep ∧ (s.clearCounters).driver = s.driver ∧
    (s.clearCounters).monitor = s.monitor ∧ (s.clearCounters).arb = s.arb ∧ (s.clearCounters).due = s.due ∧
    (s.clearCounters).role = s.role ∧ (s.clearCounters).now = s.now := by
  unfold clearCounters; simp

@[simp] theorem runReadCounters_frame (s : State) (q : Request) :
    (s.runReadCounters q).pending = s.pending ∧ (s.runReadCounters q).clock = s.clock ∧
    (s.runReadCounters q).resetLow = s.resetLow ∧ (s.runReadCounters q).letter = s.letter ∧
    (s.runReadCounters q).busData = s.busData ∧ (s.runReadCounters q).req.queue = s.req.queue ∧
    (s.runReadCounters q).req.running = s.req.running ∧ (s.runReadCounters q).req.assembling = s.req.assembling ∧
    (s.runReadCounters q).req.readPos = s.req.readPos ∧ (s.runReadCounters q).req.enable = s.req.enable ∧
    (s.runReadCounters q).cfg = s.cfg ∧ (s.runReadCounters q).table = s.table ∧
    (s.runReadCounters q).aging = s.aging ∧ (s.runReadCounters q).pool = s.pool ∧ (s.runReadCounters q).dq = s.dq ∧
    (s.runReadCounters q).port = s.port ∧ (s.runReadCounters q).hello = s.hello ∧
    (s.runReadCounters q).sweep = s.sweep ∧ (s.runReadCounters q).driver = s.driver ∧
    (s.runReadCounters q).monitor = s.monitor ∧ (s.runReadCounters q).arb = s.arb ∧
    (s.runReadCounters q).due = s.due ∧ (s.runReadCounters q).role = s.role ∧ (s.runReadCounters q).now = s.now ∧
    (s.runReadCounters q).up = s.up := by
  simp [runReadCounters, role, up]

@[simp] theorem softResetPort_frame (s : State) :
    (s.softResetPort).pending = s.pending ∧ (s.softResetPort).clock = s.clock ∧
    (s.softResetPort).resetLow = s.resetLow ∧ (s.softResetPort).letter = s.letter ∧
    (s.softResetPort).busData = s.busData ∧ (s.softResetPort).req = s.req ∧ (s.softResetPort).cfg = s.cfg ∧
    (s.softResetPort).table = s.table ∧ (s.softResetPort).aging = s.aging ∧ (s.softResetPort).pool = s.pool ∧
    (s.softResetPort).dq = s.dq ∧ (s.softResetPort).port.carrier = s.port.carrier ∧
    (s.softResetPort).port.nextSeq = s.port.nextSeq ∧ (s.softResetPort).port.expected = s.port.expected ∧
    (s.softResetPort).port.lastEnd = s.port.lastEnd ∧
    (s.softResetPort).port.applying = [] ∧ (s.softResetPort).hello = s.hello ∧
    (s.softResetPort).sweep = s.sweep ∧ (s.softResetPort).driver = s.driver ∧ (s.softResetPort).monitor = s.monitor ∧
    (s.softResetPort).arb = s.arb ∧ (s.softResetPort).due = s.due ∧ (s.softResetPort).role = s.role ∧
    (s.softResetPort).now = s.now := by
  unfold softResetPort; simp

@[simp] theorem softResetHello_frame (s : State) :
    (s.softResetHello).pending = s.pending ∧ (s.softResetHello).clock = s.clock ∧
    (s.softResetHello).resetLow = s.resetLow ∧ (s.softResetHello).letter = s.letter ∧
    (s.softResetHello).busData = s.busData ∧ (s.softResetHello).req = s.req ∧ (s.softResetHello).cfg = s.cfg ∧
    (s.softResetHello).table = s.table ∧ (s.softResetHello).aging = s.aging ∧ (s.softResetHello).pool = s.pool ∧
    (s.softResetHello).dq = s.dq ∧ (s.softResetHello).port = s.port ∧
    (s.softResetHello).hello.exchange = s.hello.exchange ∧ (s.softResetHello).sweep = s.sweep ∧
    (s.softResetHello).driver = s.driver ∧ (s.softResetHello).monitor = s.monitor ∧ (s.softResetHello).arb = s.arb ∧
    (s.softResetHello).due = s.due ∧ (s.softResetHello).role = s.role ∧ (s.softResetHello).now = s.now := by
  unfold softResetHello; simp

@[simp] theorem softResetTable_frame (s : State) :
    (s.softResetTable).pending = s.pending ∧ (s.softResetTable).clock = s.clock ∧
    (s.softResetTable).resetLow = s.resetLow ∧ (s.softResetTable).letter = s.letter ∧
    (s.softResetTable).busData = s.busData ∧ (s.softResetTable).req = s.req ∧ (s.softResetTable).cfg = s.cfg ∧
    (s.softResetTable).aging = s.aging ∧ (s.softResetTable).pool = s.pool ∧ (s.softResetTable).port = s.port ∧
    (s.softResetTable).hello = s.hello ∧ (s.softResetTable).sweep = s.sweep ∧ (s.softResetTable).driver = s.driver ∧
    (s.softResetTable).monitor = s.monitor ∧ (s.softResetTable).arb = s.arb ∧ (s.softResetTable).due = s.due ∧
    (s.softResetTable).role = s.role ∧ (s.softResetTable).now = s.now ∧ (s.softResetTable).up = s.up := by
  simp [softResetTable, role, up]

@[simp] theorem softResetPool_frame (s : State) :
    (s.softResetPool).pending = s.pending ∧ (s.softResetPool).clock = s.clock ∧
    (s.softResetPool).resetLow = s.resetLow ∧ (s.softResetPool).letter = s.letter ∧
    (s.softResetPool).busData = s.busData ∧ (s.softResetPool).req = s.req ∧ (s.softResetPool).cfg = s.cfg ∧
    (s.softResetPool).table = s.table ∧ (s.softResetPool).aging = s.aging ∧
    (s.softResetPool).pool.bound = s.pool.bound ∧ (s.softResetPool).pool.addrCount = s.pool.addrCount ∧
    (s.softResetPool).pool.staticBlocks = s.pool.staticBlocks ∧ (s.softResetPool).pool.cursors = s.pool.cursors ∧
    (s.softResetPool).dq = s.dq ∧ (s.softResetPool).port = s.port ∧ (s.softResetPool).hello = s.hello ∧
    (s.softResetPool).sweep = s.sweep ∧ (s.softResetPool).driver = s.driver ∧ (s.softResetPool).monitor = s.monitor ∧
    (s.softResetPool).arb = s.arb ∧ (s.softResetPool).due = s.due ∧ (s.softResetPool).role = s.role ∧
    (s.softResetPool).now = s.now := by
  unfold softResetPool; simp

@[simp] theorem softResetArbiter_frame (s : State) :
    (s.softResetArbiter).pending = s.pending ∧ (s.softResetArbiter).clock = s.clock ∧
    (s.softResetArbiter).resetLow = s.resetLow ∧ (s.softResetArbiter).letter = s.letter ∧
    (s.softResetArbiter).busData = s.busData ∧ (s.softResetArbiter).req = s.req ∧ (s.softResetArbiter).cfg = s.cfg ∧
    (s.softResetArbiter).table = s.table ∧ (s.softResetArbiter).aging = s.aging ∧
    (s.softResetArbiter).pool = s.pool ∧ (s.softResetArbiter).dq = s.dq ∧ (s.softResetArbiter).port = s.port ∧
    (s.softResetArbiter).hello = s.hello ∧ (s.softResetArbiter).sweep = s.sweep ∧
    (s.softResetArbiter).driver = s.driver ∧ (s.softResetArbiter).monitor = s.monitor ∧
    (s.softResetArbiter).arb.epoch = s.arb.epoch ∧ (s.softResetArbiter).arb.takeoverTick = s.arb.takeoverTick ∧
    (s.softResetArbiter).arb.peer = s.arb.peer ∧ (s.softResetArbiter).due = s.due ∧
    (s.softResetArbiter).now = s.now := by
  unfold softResetArbiter; simp

@[simp] theorem softResetRelation_frame (s : State) :
    (s.softResetRelation).pending = s.pending ∧ (s.softResetRelation).clock = s.clock ∧
    (s.softResetRelation).resetLow = s.resetLow ∧ (s.softResetRelation).letter = s.letter ∧
    (s.softResetRelation).busData = s.busData ∧ (s.softResetRelation).req.queue = s.req.queue ∧
    (s.softResetRelation).req.assembling = s.req.assembling ∧ (s.softResetRelation).req.readPos = s.req.readPos ∧
    (s.softResetRelation).req.enable = s.req.enable ∧ (s.softResetRelation).req.drops = s.req.drops ∧
    (s.softResetRelation).cfg = s.cfg ∧ (s.softResetRelation).aging = s.aging ∧
    (s.softResetRelation).pool.quarantine = s.pool.quarantine ∧ (s.softResetRelation).pool.bound = s.pool.bound ∧
    (s.softResetRelation).pool.addrCount = s.pool.addrCount ∧
    (s.softResetRelation).pool.staticBlocks = s.pool.staticBlocks ∧
    (s.softResetRelation).pool.cursors = s.pool.cursors ∧
    (s.softResetRelation).dq.catchupCursor = s.dq.catchupCursor ∧
    (s.softResetRelation).port.carrier = s.port.carrier ∧ (s.softResetRelation).port.nextSeq = s.port.nextSeq ∧
    (s.softResetRelation).port.expected = s.port.expected ∧
    (s.softResetRelation).hello.ackExchange = s.hello.ackExchange ∧
    (s.softResetRelation).hello.refusal = s.hello.refusal ∧ (s.softResetRelation).sweep.cursor = s.sweep.cursor ∧
    (s.softResetRelation).sweep.scanCount = s.sweep.scanCount ∧ (s.softResetRelation).monitor = s.monitor ∧
    (s.softResetRelation).arb.health = s.arb.health ∧ (s.softResetRelation).arb.hold = s.arb.hold ∧
    (s.softResetRelation).arb.peer = s.arb.peer ∧ (s.softResetRelation).due = s.due ∧
    (s.softResetRelation).now = s.now := by
  unfold softResetRelation; dsimp only; split <;> simp

@[simp] theorem softResetBlocks_frame (s : State) :
    (s.softResetBlocks).pending = s.pending ∧ (s.softResetBlocks).clock = s.clock ∧
    (s.softResetBlocks).resetLow = s.resetLow ∧ (s.softResetBlocks).letter = s.letter ∧
    (s.softResetBlocks).busData = s.busData ∧ (s.softResetBlocks).req.queue = s.req.queue ∧
    (s.softResetBlocks).req.assembling = s.req.assembling ∧ (s.softResetBlocks).req.readPos = s.req.readPos ∧
    (s.softResetBlocks).req.enable = s.req.enable ∧ (s.softResetBlocks).req.drops = s.req.drops ∧
    (s.softResetBlocks).aging = s.aging ∧ (s.softResetBlocks).pool.bound = s.pool.bound ∧
    (s.softResetBlocks).pool.addrCount = s.pool.addrCount ∧
    (s.softResetBlocks).pool.staticBlocks = s.pool.staticBlocks ∧ (s.softResetBlocks).pool.cursors = s.pool.cursors ∧
    (s.softResetBlocks).port.carrier = s.port.carrier ∧ (s.softResetBlocks).port.nextSeq = s.port.nextSeq ∧
    (s.softResetBlocks).port.expected = s.port.expected ∧ (s.softResetBlocks).monitor = s.monitor ∧
    (s.softResetBlocks).arb.peer = s.arb.peer ∧ (s.softResetBlocks).due = s.due ∧
    (s.softResetBlocks).now = s.now := by
  unfold softResetBlocks; simp

@[simp] theorem softResetRequests_frame (s : State) :
    (s.softResetRequests).pending = s.pending ∧ (s.softResetRequests).clock = s.clock ∧
    (s.softResetRequests).resetLow = s.resetLow ∧ (s.softResetRequests).letter = s.letter ∧
    (s.softResetRequests).busData = s.busData ∧ (s.softResetRequests).req.assembling = s.req.assembling ∧
    (s.softResetRequests).cfg = s.cfg ∧ (s.softResetRequests).table = s.table ∧
    (s.softResetRequests).aging = s.aging ∧ (s.softResetRequests).pool = s.pool ∧ (s.softResetRequests).dq = s.dq ∧
    (s.softResetRequests).port = s.port ∧ (s.softResetRequests).hello = s.hello ∧
    (s.softResetRequests).sweep = s.sweep ∧ (s.softResetRequests).driver = s.driver ∧
    (s.softResetRequests).monitor = s.monitor ∧ (s.softResetRequests).arb = s.arb ∧
    (s.softResetRequests).due = s.due ∧ (s.softResetRequests).role = s.role ∧ (s.softResetRequests).now = s.now ∧
    (s.softResetRequests).up = s.up := by
  simp [softResetRequests, role, up]

@[simp] theorem runSoftReset_frame (s : State) (q : Request) :
    (s.runSoftReset q).pending = s.pending ∧ (s.runSoftReset q).clock = s.clock ∧
    (s.runSoftReset q).resetLow = s.resetLow ∧ (s.runSoftReset q).letter = s.letter ∧
    (s.runSoftReset q).busData = s.busData ∧ (s.runSoftReset q).req.assembling = s.req.assembling ∧
    (s.runSoftReset q).aging = s.aging ∧ (s.runSoftReset q).pool.bound = s.pool.bound ∧
    (s.runSoftReset q).pool.addrCount = s.pool.addrCount ∧
    (s.runSoftReset q).pool.staticBlocks = s.pool.staticBlocks ∧ (s.runSoftReset q).pool.cursors = s.pool.cursors ∧
    (s.runSoftReset q).port.carrier = s.port.carrier ∧ (s.runSoftReset q).port.nextSeq = s.port.nextSeq ∧
    (s.runSoftReset q).port.expected = s.port.expected ∧ (s.runSoftReset q).monitor = s.monitor ∧
    (s.runSoftReset q).arb.peer = s.arb.peer ∧ (s.runSoftReset q).now = s.now := by
  unfold runSoftReset; simp

@[simp] theorem runUnknownRequest_frame (s : State) (q : Request) :
    (s.runUnknownRequest q).pending = s.pending ∧ (s.runUnknownRequest q).clock = s.clock ∧
    (s.runUnknownRequest q).resetLow = s.resetLow ∧ (s.runUnknownRequest q).letter = s.letter ∧
    (s.runUnknownRequest q).busData = s.busData ∧ (s.runUnknownRequest q).req.queue = s.req.queue ∧
    (s.runUnknownRequest q).req.running = s.req.running ∧ (s.runUnknownRequest q).req.assembling = s.req.assembling ∧
    (s.runUnknownRequest q).req.readPos = s.req.readPos ∧ (s.runUnknownRequest q).req.enable = s.req.enable ∧
    (s.runUnknownRequest q).req.drops = s.req.drops ∧ (s.runUnknownRequest q).req.counters = s.req.counters ∧
    (s.runUnknownRequest q).cfg = s.cfg ∧ (s.runUnknownRequest q).table = s.table ∧
    (s.runUnknownRequest q).aging = s.aging ∧ (s.runUnknownRequest q).pool = s.pool ∧
    (s.runUnknownRequest q).dq = s.dq ∧ (s.runUnknownRequest q).port = s.port ∧
    (s.runUnknownRequest q).hello = s.hello ∧ (s.runUnknownRequest q).sweep = s.sweep ∧
    (s.runUnknownRequest q).driver = s.driver ∧ (s.runUnknownRequest q).monitor = s.monitor ∧
    (s.runUnknownRequest q).arb = s.arb ∧ (s.runUnknownRequest q).due = s.due ∧
    (s.runUnknownRequest q).role = s.role ∧ (s.runUnknownRequest q).now = s.now ∧
    (s.runUnknownRequest q).up = s.up := by
  unfold runUnknownRequest; simp

end State

end Sys2Proof.Machine
end

