-- ==== Sys2Proof/Laws/Outcome.lean ====
section
/-! SUPPORT. What an outcome can be: an event that happens or does not, a request that is begun or is not. Each says once
everything the outcome can be, so that no proof about a command unfolds the helper that makes it. -/

namespace Sys2Proof.Machine

variable {s t : State} {c : State → Bool} {f : State → State}

/-- Every event answers a next state. -/
theorem event_next (s : State) (c : State → Bool) (f : State → State) :
    event s c f = .next (if s.resetLow = false ∧ c s = true then State.settle s (f s) else s) := by
  cases hr : s.resetLow <;> cases hc : c s <;> simp [event, whenRunning, hr, hc]

theorem quietEvent_next (s : State) (c : State → Bool) (f : State → State) :
    quietEvent s c f = .next (if s.resetLow = false ∧ c s = true then f s else s) := by
  cases hr : s.resetLow <;> cases hc : c s <;> simp [quietEvent, whenRunning, hr, hc]

theorem stagedEvent_next (s : State) (c : State → Bool) (f : State → State) :
    stagedEvent s c f = .next (if s.resetLow = false ∧ c s = true then (f s).kick else s) := by
  cases hr : s.resetLow <;> cases hc : c s <;> simp [stagedEvent, whenRunning, hr, hc]

theorem received_next (s : State) (c : State → Bool) (f : State → State) :
    received s c f = .next
      (if s.resetLow = false ∧ c s = true then State.settle s.frameFinished (f s.frameFinished) else s) := by
  cases hr : s.resetLow <;> cases hc : c s <;> simp [received, whenRunning, hr, hc]

theorem timedEvent_next (s : State) (phase : Nat) (c : State → Bool) (f : State → State) :
    timedEvent s phase c f = .next
      (if s.resetLow = false ∧ c (s.atPhase phase) = true then State.settle s (f (s.atPhase phase)) else s) := by
  cases hr : s.resetLow <;> cases hc : c (s.atPhase phase) <;> simp [timedEvent, whenRunning, hr, hc]

/-- An event either leaves the part as it was, or has happened. -/
theorem event_cases (h : event s c f = .next t) :
    t = s ∨ s.resetLow = false ∧ c s = true ∧ t = State.settle s (f s) := by
  rw [event_next] at h; injection h with h; split at h
  · next hc => exact .inr ⟨hc.1, hc.2, h.symm⟩
  · exact .inl h.symm

theorem quietEvent_cases (h : quietEvent s c f = .next t) :
    t = s ∨ s.resetLow = false ∧ c s = true ∧ t = f s := by
  rw [quietEvent_next] at h; injection h with h; split at h
  · next hc => exact .inr ⟨hc.1, hc.2, h.symm⟩
  · exact .inl h.symm

theorem stagedEvent_cases (h : stagedEvent s c f = .next t) :
    t = s ∨ s.resetLow = false ∧ c s = true ∧ t = (f s).kick := by
  rw [stagedEvent_next] at h; injection h with h; split at h
  · next hc => exact .inr ⟨hc.1, hc.2, h.symm⟩
  · exact .inl h.symm

theorem received_cases (h : received s c f = .next t) :
    t = s ∨ s.resetLow = false ∧ c s = true ∧ t = State.settle s.frameFinished (f s.frameFinished) := by
  rw [received_next] at h; injection h with h; split at h
  · next hc => exact .inr ⟨hc.1, hc.2, h.symm⟩
  · exact .inl h.symm

theorem timedEvent_cases {phase : Nat} (h : timedEvent s phase c f = .next t) :
    t = s ∨ s.resetLow = false ∧ c (s.atPhase phase) = true ∧ t = State.settle s (f (s.atPhase phase)) := by
  rw [timedEvent_next] at h; injection h with h; split at h
  · next hc => exact .inr ⟨hc.1, hc.2, h.symm⟩
  · exact .inl h.symm

/-- An event that happens. -/
theorem event_happens (hr : s.resetLow = false) (hc : c s = true) : event s c f = .next (State.settle s (f s)) := by
  simp [event_next, hr, hc]

theorem quietEvent_happens (hr : s.resetLow = false) (hc : c s = true) : quietEvent s c f = .next (f s) := by
  simp [quietEvent_next, hr, hc]

theorem stagedEvent_happens (hr : s.resetLow = false) (hc : c s = true) : stagedEvent s c f = .next (f s).kick := by
  simp [stagedEvent_next, hr, hc]

theorem received_happens (hr : s.resetLow = false) (hc : c s = true) :
    received s c f = .next (State.settle s.frameFinished (f s.frameFinished)) := by simp [received_next, hr, hc]

/-- R109: with no DELTA frame in progress a received frame is an event as any other. -/
theorem received_of_nil (h : s.port.applying = []) : received s c f = event s c f := by
  rw [received_next, event_next, State.frameFinished_of_nil h]

theorem timedEvent_happens {phase : Nat} (hr : s.resetLow = false) (hc : c (s.atPhase phase) = true) :
    timedEvent s phase c f = .next (State.settle s (f (s.atPhase phase))) := by
  simp [timedEvent_next, hr, hc]

/-! ### Requests -/

variable {op : RequestOp} {body : Request → State → State} {r : Request}

/-- R176: when the executor can begin a request. -/
theorem readyRequest_eq_some :
    s.readyRequest = some r ↔
      s.req.running = none ∧ s.req.completions.length < Config.completionLimit ∧ s.req.queue.head? = some r := by
  unfold State.readyRequest
  by_cases h1 : s.req.running = none <;> by_cases h2 : Config.completionLimit ≤ s.req.completions.length <;>
    simp [h1, h2, Option.isSome_iff_ne_none]
  exact fun _ => Nat.lt_of_not_le h2

/-- R176: the request a request command begins. -/
theorem runRequest_eq_some :
    s.runRequest op body = some t ↔ ∃ r, s.readyRequest = some r ∧ r.op = op ∧ t = body r s.beginRequest := by
  unfold State.runRequest
  cases h : s.readyRequest with
  | none => simp
  | some r =>
    by_cases hop : r.op = op
    · simp [hop, eq_comm]
    · simp only [hop, if_false, reduceCtorEq, Option.some.injEq, false_iff]
      rintro ⟨q, rfl, hq, -⟩
      exact hop hq

/-- A request command either leaves the part as it was, or has executed the head request. -/
theorem execute_cases (h : execute s op body = .next t) :
    t = s ∨ ∃ r, s.resetLow = false ∧ s.readyRequest = some r ∧ r.op = op ∧
      t = State.settle s (body r s.beginRequest) := by
  unfold execute whenRunning at h; injection h with h
  split at h
  · exact .inl h.symm
  · next hr =>
    dsimp only at h
    split at h
    · next u hu =>
      obtain ⟨r, h1, h2, rfl⟩ := runRequest_eq_some.1 hu
      exact .inr ⟨r, by simpa using hr, h1, h2, h.symm⟩
    · exact .inl h.symm

theorem answer_cases (h : answer s op body = .next t) :
    t = s ∨ ∃ r, s.resetLow = false ∧ s.readyRequest = some r ∧ r.op = op ∧ t = body r s.beginRequest := by
  unfold answer whenRunning at h; injection h with h
  split at h
  · exact .inl h.symm
  · next hr =>
    dsimp only at h
    cases hu : s.runRequest op body with
    | none => rw [hu] at h; exact .inl h.symm
    | some u =>
      obtain ⟨r, h1, h2, rfl⟩ := runRequest_eq_some.1 hu
      rw [hu] at h
      exact .inr ⟨r, by simpa using hr, h1, h2, h.symm⟩

/-- A request that is begun. -/
theorem execute_begun (hr : s.resetLow = false) (hq : s.readyRequest = some r) (hop : r.op = op) :
    execute s op body = .next (State.settle s (body r s.beginRequest)) := by
  have h : s.runRequest op body = some (body r s.beginRequest) := runRequest_eq_some.2 ⟨r, hq, hop, rfl⟩
  simp [execute, whenRunning, hr, h]

theorem answer_begun (hr : s.resetLow = false) (hq : s.readyRequest = some r) (hop : r.op = op) :
    answer s op body = .next (body r s.beginRequest) := by
  have h : s.runRequest op body = some (body r s.beginRequest) := runRequest_eq_some.2 ⟨r, hq, hop, rfl⟩
  simp [answer, whenRunning, hr, h]

/-- Every request command answers a next state. -/
theorem execute_answers (s : State) (op : RequestOp) (body : Request → State → State) :
    ∃ t, execute s op body = .next t := ⟨_, rfl⟩

theorem answer_answers (s : State) (op : RequestOp) (body : Request → State → State) :
    ∃ t, answer s op body = .next t := ⟨_, rfl⟩

namespace State

/-! ### What follows at once -/

/-- `settle` changes nothing but the catch-up engine, the health-hold timer, the YIELD marker handed over, the heartbeat timer
and the transmitter. -/
theorem settle_changes (before s : State) :
    settle before s = { s with
      dq := { s.dq with
        catchup := (settle before s).dq.catchup
        catchupCursor := (settle before s).dq.catchupCursor }
      port := { s.port with
        yieldMarker := (settle before s).port.yieldMarker
        heartbeat := (settle before s).port.heartbeat
        tx := (settle before s).port.tx }
      arb := { s.arb with
        yieldHanded := (settle before s).arb.yieldHanded
        healthHold := (settle before s).arb.healthHold } } := by
  unfold settle kick followUp beatOnChange settleHealthHold handYield startCatchup putBeat withTx withPort withArb withDq
  dsimp only
  (repeat' split) <;> rfl

/-- `followUp` changes nothing but the catch-up engine, the health-hold timer, the YIELD marker handed over, the heartbeat timer and
the waiting BEAT. -/
theorem followUp_changes (before s : State) :
    followUp before s = { s with
      dq := { s.dq with
        catchup := (followUp before s).dq.catchup
        catchupCursor := (followUp before s).dq.catchupCursor }
      port := { s.port with
        yieldMarker := (followUp before s).port.yieldMarker
        heartbeat := (followUp before s).port.heartbeat
        tx := { s.port.tx with beat := (followUp before s).port.tx.beat } }
      arb := { s.arb with
        yieldHanded := (followUp before s).arb.yieldHanded
        healthHold := (followUp before s).arb.healthHold } } := by
  unfold followUp beatOnChange settleHealthHold handYield startCatchup putBeat withPort withArb withDq
  dsimp only
  (repeat' split) <;> rfl

/-- R87: a pass that starts at once starts at slot 0, and one that runs goes on where it was. -/
theorem startCatchup_dq (s : State) :
    s.startCatchup.dq =
      if s.dq.catchup = false ∧ 0 < s.dirtyCount ∧ s.occupancy < Config.catchupBelow ∧ s.offersTaken = true then
        ⟨s.dq.entries, true, 0⟩
      else s.dq := by
  unfold startCatchup; split <;> rfl

/-- R112: what the next record of a frame in progress does: it is applied whole with what follows at once, and after the last one the
frame is accepted. -/
theorem applyNext_cons {s : State} {d : Delta} {rest : List Delta} (h : s.port.applying = d :: rest) :
    s.applyNext =
      let t := followUp s ((s.withPort { s.port with applying := rest }).applyDelta d)
      if rest = [] then t.acceptFrame else t := by
  unfold applyNext; rw [h]

/-- R112: an idle step with a frame in progress. -/
theorem idle_cons {s : State} {d : Delta} {rest : List Delta} (hr : s.resetLow = false) (hu : s.up = true)
    (h : s.port.applying = d :: rest) : s.idle = s.applyNext.kick := by
  simp [idle, hr, hu, h]

/-- R197: the blocks at the pin are those of power-on, but for the low run of the line driver. -/
theorem resetBlocks_eq (letter : UnitLetter) (low : Bool) (s : State) :
    s.resetBlocks letter low = { State.initial s.clock letter low s.pending with driver := s.driver.held s.clock } := rfl

/-- R99: what an idle transmitter takes. -/
theorem kick_tx (s : State) :
    s.kick.port.tx = if s.port.tx.sending = none then takeNext s.port.inFlight s.port.tx else s.port.tx := by
  unfold kick; split <;> simp [withTx]

/-- R101: a BEAT put to the transmitter. -/
theorem putBeat_port (s : State) :
    s.putBeat.port = { s.port with heartbeat := some 0, tx := { s.port.tx with beat := some s.buildBeat } } := rfl

/-- R149: the role after a role change is the new one. -/
@[simp] theorem setRole_role (r : Role) (s : State) : (s.setRole r).role = r ∧ (s.setRole r).arb.role = r := by
  unfold setRole
  split
  · next h => exact ⟨h, h⟩
  · dsimp only; split <;> simp [role]

/-- R177: a posted completion joins the tail. -/
@[simp] theorem post_completions (s : State) (kind : BitVec 6) (tag : BitVec 16) (status : Status) (result : List Word) :
    (s.post kind tag status result).req.completions = s.req.completions ++ [⟨kind, status, tag, result⟩] := by
  simp [post]

@[simp] theorem complete_completions (s : State) (r : Request) (status : Status) (result : List Word) :
    (s.complete r status result).req.completions = s.req.completions ++ [⟨r.kind, status, r.tag, result⟩] := by
  simp [complete]

/-- R175: the head request leaves the request queue. -/
@[simp] theorem beginRequest_queue (s : State) : s.beginRequest.req.queue = s.req.queue.tail := rfl

/-- R179: a latched event is latched, and no other bit changes. -/
@[simp] theorem latch_latched (s : State) (e : Event) : (s.latch e).latched e = true := by
  cases e <;> simp [latch, latched, Event.mask, Event.bit, withReq]

/-- R179: a bit already set stays set. -/
theorem latch_keeps (s : State) (e e' : Event) (h : s.latched e' = true) : (s.latch e).latched e' = true := by
  simp only [latched, latch, withReq] at *; simp [h]

end State

/-- R197: the driver in reset sends no pattern and holds the line low. -/
@[simp] theorem Driver.held_line (clock : Nat) (d : Driver) :
    (d.held clock).pattern = none ∧ (d.held clock).level = false ∧ (d.held clock).lowSince = some (d.lowFrom clock) :=
  ⟨rfl, rfl, rfl⟩

/-- R140: the low run of a line driven low begins now on a high line, and goes on on a low one. -/
theorem Driver.lowFrom_high {clock : Nat} {d : Driver} (h : d.level = true) : d.lowFrom clock = clock := by simp [lowFrom, h]

theorem Driver.lowFrom_low {clock low : Nat} {d : Driver} (h : d.level = false) (hl : d.lowSince = some low) :
    d.lowFrom clock = low := by simp [lowFrom, h, hl]

end Sys2Proof.Machine
end

