-- ==== Sys2Proof/Laws/Ports.lean ====
section
/-! SUPPORT. What a binding and a release do to the bound ports, the quarantine list and the count QUARANTINE_EARLY, in the words of the
claims: one lemma each, so that no proof unfolds either. -/

namespace Sys2Proof.Machine.State

/-- R69: a binding, in one equation. -/
theorem bindPort_ports (s : State) (nat : Option NatPart) : (s.bindPort nat).ports = s.afterBinding nat s.ports := by
  cases nat with
  | none => rfl
  | some n =>
    simp only [bindPort, ports, afterBinding]
    split <;> simp [Pool.bind]

/-- R67: a release, in one equation. -/
theorem releasePort_ports (s : State) (nat : Option NatPart) : (s.releasePort nat).ports = s.afterRelease nat s.ports := by
  cases nat with
  | none => rfl
  | some n =>
    simp only [releasePort, ports, afterRelease]
    by_cases hb : n ∈ s.pool.bound
    · by_cases hh : s.cfg.quarantineHold = 0
      · simp [hb, hh, Pool.release]
      · by_cases hq : 512 ≤ s.pool.quarantine.length
        · simp [hb, hh, hq, Pool.release, Pool.evict, Config.quarantineLimit, countEarly, withCounters, saturate, Config.counterMax,
            show ¬ s.pool.quarantine.length < 512 by omega]
        · simp [hb, hh, hq, Pool.release, Pool.evict, Config.quarantineLimit, show s.pool.quarantine.length < 512 by omega]
    · simp [hb]

end Sys2Proof.Machine.State
end

