-- ==== Sys2Proof/Laws/Table.lean ====
section
/-! SUPPORT. The Session Table as a sparse list: what its operations read and write, and that each keeps the canonical form. -/

namespace Sys2Proof.Machine

/-- Every listed index of a canonical table is above `j` and below 16,896, and no listed slot is blank. -/
theorem tableWf_cons {j : Nat} {y : Slot} {rest : Table} :
    tableWf ((j, y) :: rest) = true ↔
      j < Config.slotCount ∧ y ≠ Slot.blank ∧ (∀ e ∈ rest, j < e.1) ∧ tableWf rest = true := by
  simp [tableWf, and_assoc]

/-- An index below every listed one reads as blank. -/
theorem tableGet_eq_blank {t : Table} {i : Nat} (h : ∀ e ∈ t, i < e.1) : tableGet t i = Slot.blank := by
  induction t with
  | nil => rfl
  | cons e t ih =>
    have := h e (by simp)
    simp only [tableGet, if_neg (Nat.ne_of_lt this)]
    exact ih fun e he => h e (by simp [he])

/-- A slot that is not blank is listed. -/
theorem tableGet_mem {t : Table} {i : Nat} (h : tableGet t i ≠ Slot.blank) : (i, tableGet t i) ∈ t := by
  induction t with
  | nil => exact absurd rfl h
  | cons e t ih =>
    by_cases hi : i = e.1
    · subst hi; simp [tableGet]
    · simp only [tableGet, if_neg hi] at h ⊢
      exact List.mem_cons_of_mem _ (ih h)

/-- The indices of a canonical table are slot indices. -/
theorem tableWf_mem {t : Table} (h : tableWf t = true) {e : Nat × Slot} (he : e ∈ t) :
    e.1 < Config.slotCount ∧ e.2 ≠ Slot.blank := by
  induction t with
  | nil => simp at he
  | cons d t ih =>
    obtain ⟨h1, h2, -, h4⟩ := tableWf_cons.1 h
    rcases List.mem_cons.1 he with rfl | he
    · exact ⟨h1, h2⟩
    · exact ih h4 he

/-- The canonical form, said of the list whole. -/
theorem tableWf_iff {t : Table} : tableWf t = true ↔
    (∀ e ∈ t, e.1 < Config.slotCount ∧ e.2 ≠ Slot.blank) ∧ t.Pairwise (fun a b => a.1 < b.1) := by
  induction t with
  | nil => simp [tableWf]
  | cons e rest ih => rw [tableWf_cons, ih, List.forall_mem_cons, List.pairwise_cons]; tauto

/-- R1: no slot of 16,896 or more holds anything. -/
theorem tableGet_lt {t : Table} {i : Nat} (h : tableWf t = true) (hi : tableGet t i ≠ Slot.blank) :
    i < Config.slotCount := (tableWf_mem h (tableGet_mem hi)).1

/-! ### Writing one slot -/

theorem tablePut_mem {t : Table} {i : Nat} {x : Slot} {e : Nat × Slot} (he : e ∈ tablePut t i x) :
    e = (i, x) ∧ x ≠ Slot.blank ∨ e ∈ t := by
  induction t with
  | nil => unfold tablePut at he; split at he <;> simp_all
  | cons d t ih =>
    unfold tablePut at he
    (repeat' split at he) <;> simp_all <;> tauto

/-- Writing a slot of the table keeps the canonical form; so does writing a blank slot anywhere. -/
theorem tablePut_wf {t : Table} {i : Nat} {x : Slot} (h : tableWf t = true) (hi : i < Config.slotCount ∨ x = Slot.blank) :
    tableWf (tablePut t i x) = true := by
  induction t with
  | nil =>
    unfold tablePut; split
    · rfl
    · next hx => exact tableWf_cons.2 ⟨hi.resolve_right hx, hx, by simp, rfl⟩
  | cons d t ih =>
    obtain ⟨h1, h2, h3, h4⟩ := tableWf_cons.1 h
    unfold tablePut; (repeat' split)
    · exact h
    · next hlt hx =>
      refine tableWf_cons.2 ⟨hi.resolve_right hx, hx, ?_, h⟩
      intro e he
      rcases List.mem_cons.1 he with rfl | he
      · exact hlt
      · exact Nat.lt_trans hlt (h3 e he)
    · exact h4
    · next hlt heq hx => exact tableWf_cons.2 ⟨heq ▸ h1, hx, heq ▸ h3, h4⟩
    · next hlt hne =>
      refine tableWf_cons.2 ⟨h1, h2, ?_, ih h4⟩
      intro e he
      rcases tablePut_mem he with ⟨rfl, -⟩ | he
      · exact Nat.lt_of_le_of_ne (Nat.le_of_not_lt hlt) (Ne.symm hne)
      · exact h3 e he

/-- A slot reads as it was last written. -/
theorem tableGet_tablePut {t : Table} (h : tableWf t = true) (i j : Nat) (x : Slot) :
    tableGet (tablePut t i x) j = if j = i then x else tableGet t j := by
  induction t with
  | nil =>
    unfold tablePut; split
    · next hx => simp [tableGet, hx]
    · simp [tableGet]
  | cons d t ih =>
    obtain ⟨-, -, h3, h4⟩ := tableWf_cons.1 h
    unfold tablePut; (repeat' split)
    · next hlt hx hj =>
      subst hj
      rw [tableGet_eq_blank, hx]
      intro e he
      rcases List.mem_cons.1 he with rfl | he
      · exact hlt
      · exact Nat.lt_trans hlt (h3 e he)
    · rfl
    · next hj => simp [tableGet, hj]
    · next hj => simp [tableGet, hj]
    · next hlt heq hx hj => subst hj; rw [hx]; exact tableGet_eq_blank (heq ▸ h3)
    · next hlt heq hx hj => subst heq; simp [tableGet, hj]
    · next hj => simp [tableGet, hj]
    · next hlt heq hx hj => subst heq; simp [tableGet, hj]
    · next hlt hne hj => subst hj; simp [tableGet, hne, ih h4]
    · next hlt hne hj => simp only [tableGet, ih h4, if_neg hj]

/-! ### Changing every slot -/

theorem tableMap_mem {f : Nat → Slot → Slot} {t : Table} {e : Nat × Slot} (he : e ∈ tableMap f t) :
    e.2 ≠ Slot.blank ∧ ∃ y, (e.1, y) ∈ t ∧ e.2 = f e.1 y := by
  induction t with
  | nil => simp [tableMap] at he
  | cons d t ih =>
    unfold tableMap at he; split at he
    · obtain ⟨h1, y, h2, h3⟩ := ih he; exact ⟨h1, y, by simp [h2], h3⟩
    · next hd =>
      rcases List.mem_cons.1 he with rfl | he
      · exact ⟨hd, d.2, by simp, rfl⟩
      · obtain ⟨h1, y, h2, h3⟩ := ih he; exact ⟨h1, y, by simp [h2], h3⟩

/-- Changing every slot keeps the canonical form. -/
theorem tableMap_wf {f : Nat → Slot → Slot} {t : Table} (h : tableWf t = true) : tableWf (tableMap f t) = true := by
  induction t with
  | nil => rfl
  | cons d t ih =>
    obtain ⟨h1, -, h3, h4⟩ := tableWf_cons.1 h
    unfold tableMap; split
    · exact ih h4
    · next hd =>
      refine tableWf_cons.2 ⟨h1, hd, ?_, ih h4⟩
      intro e he
      obtain ⟨-, y, hy, -⟩ := tableMap_mem he
      exact h3 (e.1, y) hy

/-- A slot reads as the change leaves it, where the change leaves a blank slot blank. -/
theorem tableGet_tableMap {f : Nat → Slot → Slot} {t : Table} (h : tableWf t = true) (hf : ∀ i, f i Slot.blank = Slot.blank)
    (i : Nat) : tableGet (tableMap f t) i = f i (tableGet t i) := by
  induction t with
  | nil => simp [tableMap, tableGet, hf]
  | cons d t ih =>
    obtain ⟨-, -, h3, h4⟩ := tableWf_cons.1 h
    unfold tableMap; split
    · next hd =>
      by_cases hi : i = d.1
      · subst hi
        rw [tableGet_eq_blank]
        · simp [tableGet, hd]
        · intro e he; obtain ⟨-, y, hy, -⟩ := tableMap_mem he; exact h3 (e.1, y) hy
      · simp [tableGet, hi, ih h4]
    · by_cases hi : i = d.1 <;> simp [tableGet, hi, ih h4]

/-- Equal slots make equal canonical tables. -/
theorem table_ext {t u : Table} (ht : tableWf t = true) (hu : tableWf u = true)
    (h : ∀ i, tableGet t i = tableGet u i) : t = u := by
  induction t generalizing u with
  | nil =>
    cases u with
    | nil => rfl
    | cons e u =>
      obtain ⟨-, h2, -, -⟩ := tableWf_cons.1 hu
      have := h e.1
      simp [tableGet] at this
      exact absurd this.symm h2
  | cons d t ih =>
    obtain ⟨-, d2, d3, d4⟩ := tableWf_cons.1 ht
    cases u with
    | nil =>
      have := h d.1
      simp [tableGet] at this
      exact absurd this d2
    | cons e u =>
      obtain ⟨-, e2, e3, e4⟩ := tableWf_cons.1 hu
      have hde : d.1 = e.1 := by
        rcases Nat.lt_trichotomy d.1 e.1 with hlt | heq | hlt
        · have := h d.1
          rw [tableGet_eq_blank (t := (e.1, e.2) :: u)] at this
          · simp [tableGet] at this; exact absurd this d2
          · intro c hc
            rcases List.mem_cons.1 hc with rfl | hc
            · exact hlt
            · exact Nat.lt_trans hlt (e3 c hc)
        · exact heq
        · have := h e.1
          rw [tableGet_eq_blank (t := (d.1, d.2) :: t)] at this
          · simp [tableGet] at this; exact absurd this.symm e2
          · intro c hc
            rcases List.mem_cons.1 hc with rfl | hc
            · exact hlt
            · exact Nat.lt_trans hlt (d3 c hc)
      have hxy : d.2 = e.2 := by
        have := h d.1
        simpa [tableGet, hde] using this
      have hrest : t = u := ih d4 e4 fun i => by
        by_cases hi : i = d.1
        · subst hi; rw [tableGet_eq_blank d3, tableGet_eq_blank (hde ▸ e3)]
        · have := h i
          simpa [tableGet, hi, hde ▸ hi] using this
      obtain ⟨d1, dx⟩ := d
      obtain ⟨e1, ex⟩ := e
      simp_all

end Sys2Proof.Machine
end

