-- ==== Sys2Proof/WellFormed.lean ====
section
/-! DEFINITION. Which commands are well-formed terms: operands that something outside the part can produce. `exec` is
total and does not read this; claims may take it as a premise. -/

namespace Sys2Proof

/-- The phase of an event lies within one millisecond of the reference clock (R47). -/
def phaseOk (phase : Nat) : Bool := decide (phase < Config.periodsPerMs)

/-- The largest Ethernet payload; R195's largest frame is 1,284 bytes. -/
def payloadOk (payload : List Byte) : Bool := decide (payload.length ≤ 1500)

/-- R173, R191: the offsets of the 32-byte window that take no write: every item but the request window (0) and the
event enable (16). -/
def offsetTakesNoWrite (offset : Nat) : Bool := decide (offset < 32) && decide (offset / 4 ≠ 0) && decide (offset / 4 ≠ 4)

/-- A command whose operands an outside world can give. -/
def Instr.wf : Instr → Bool
  | .helloPacing p | .helloTimeout p | .retransmitTimeout p | .transmitDone p | .loopTestTimeout p
  | .repetitionClosureTimeout p | .unalignedPeriodEnd p | .lineSilenceTimeout p | .driverBitTime p => phaseOk p
  | .midBitSample p _ => phaseOk p
  | .lineRepetitionJudged p _ | .lineRisingEdge p _ => phaseOk p
  | .helloPageReceived b | .helloInUp b | .beatReceived b | .deltaReceived b | .ackReceived b
  | .probeOutboundReceived b | .probeReturned b => payloadOk b
  | .frameRejected _ _ _ b => payloadOk b
  | .ignoredWindowWrite offset _ => offsetTakesNoWrite offset
  | .powerOn _ | .hardReset | .resetRelease _ | .carrierUp | .carrierLoss | .tick | .walkerVisit
  | .quarantineHoldExpiry | .heartbeatTimeout | .silenceTimeout | .graceEnd | .listenPeriodEnd | .secondListenEnd
  | .staggerEnd | .healthHoldYield | .yieldTimeout | .frameBuild | .catchupVisit
  | .requestWindowWrite _ _ | .completionWindowRead | .eventLatchRead | .eventEnableWrite _ _
  | .insert | .lookup | .readSlot | .update | .touch | .remove | .check | .loopTestInternal | .loopTestFar
  | .retryPair | .health | .forceActive | .holdStandby | .releaseHold | .roleRequestYield | .setConfig | .start
  | .readStatus | .readCounters | .softReset | .unknownRequest | .millisecond => true

end Sys2Proof
end

