-- ==== Sys2Proof/Tests/Slice0.lean ====
section
/-! SUPPORT. Tests: the checks of WellFormed refuse an ill-formed command each, the manual's worked examples come out as it prints
them, and every claim with hypotheses has a concrete state that meets them (the `witness_` theorems, each named after its claim). -/

set_option Elab.async false

namespace Sys2Proof.Tests

open Sys2Proof Sys2Proof.Machine

/-! ### Helpers -/

/-- The state a command leaves. -/
def after (c : Instr) (s : State) : State := match exec c s with
  | .next t => t
  | _ => s

/-- The state a step without a command leaves. -/
def idled (s : State) : State := match step { s with pending := [] } with
  | .next t => t
  | _ => s

/-- A request of this kind with this body, tag 7. -/
def request (kind : Nat) (body : List Word) : Request := ⟨BitVec.ofNat 32 (kind * 67108864 + body.length * 2097152 + 7), body⟩

/-- The state with this one request waiting. -/
def asking (r : Request) (s : State) : State := { s with req := { s.req with queue := [r] } }

/-- The result of the one completion posted, and its status. -/
def answer (s : State) : Option (Status × List Word) := s.req.completions.getLast?.map (fun c => (c.status, c.result))

/-- A unit A in this role, with this link state, started and with carrier unless the link is DOWN. -/
def unitIn (role : Role) (link : LinkState) : State :=
  let s := State.reset
  { s with
    arb := { s.arb with role := role }
    port := { s.port with
      link := link
      carrier := decide (link ≠ .down)
      heartbeat := if link = .up then some 0 else none
      silence := if link = .up then some 0 else none }
    driver := { s.driver with pattern := role.pattern } }

/-- The key of the worked hash (section 1.2). -/
def key1 : Key := ⟨0, 6, 0xC0A80114, 40000, 0xCB007105, 443⟩

/-- The TCP part of the worked cases (section 2.8). -/
def tcp1 : TcpPart := ⟨⟨4294950000, 5000, 65535, 2⟩, ⟨900000, 950000, 65535, 7⟩⟩

/-- The record of the worked cases (section 2.8), without a NAT part. -/
def rec1 : Record where
  key := key1
  home := none
  cls := 3
  pinned := false
  deadline := 12290
  deadlineSent := 12290
  lastTouch := 10500
  rate := 12000
  stamp := 10500
  baseEpoch := 6
  seenEpoch := 6
  seenOut := false
  seenIn := false
  source := .peer
  nat := none
  tcp := some tcp1
  marks := ⟨false, false, false⟩

/-- The state with this record LIVE in slot 16,112 at version 31, at this tick. -/
def holding (r : Record) (tick : Word) (s : State) : State :=
  { s with table := [(16112, ⟨31, .live r⟩)], aging := { s.aging with ticks := tick } }

/-- The unit of section 2.8: it took over at tick 10,509, epoch 7, with no relation. -/
def taken : State :=
  let s := holding rec1 10510 (unitIn .takeover .hello)
  { s with arb := { s.arb with epoch := 7, takeoverTick := 10509, grace := 600 } }

/-- A CHECK by slot 16,112. -/
def checkRequest (flags : Nat) (seq len window ack : Nat) : Request :=
  request 7 [BitVec.ofNat 32 (16112 * 65536 + flags), 0, 0, 0, 0, BitVec.ofNat 32 seq, BitVec.ofNat 32 (window * 65536 + len),
    BitVec.ofNat 32 ack]

/-- An ACTIVE unit with a relation UP and the record LIVE. -/
def active : State := holding rec1 10510 (unitIn .active .up)

/-- A delta queue of `n` entries, in slots 0 upward. -/
def queueOf (n : Nat) : List Entry := (List.range n).map (fun i => ⟨i, .change⟩)

/-! ### WellFormed refuses -/

theorem test_wf_phase : Instr.wf (.helloPacing 25000) = false ∧ Instr.wf (.transmitDone 24999) = true := by decide +kernel
theorem test_wf_sample_phase : Instr.wf (.midBitSample 25000 true) = false := by decide +kernel
theorem test_wf_edge_phase : Instr.wf (.lineRepetitionJudged 25000 0) = false ∧ Instr.wf (.lineRisingEdge 25000 0) = false := by
  decide +kernel
theorem test_wf_payload : Instr.wf (.deltaReceived (List.replicate 1501 0)) = false := by decide +kernel
theorem test_wf_rejected_payload : Instr.wf (.frameRejected 34998 true true (List.replicate 1501 0)) = false := by decide +kernel
theorem test_wf_offset_taken : Instr.wf (.ignoredWindowWrite 16 0) = false ∧ Instr.wf (.ignoredWindowWrite 3 0) = false ∧
    Instr.wf (.ignoredWindowWrite 32 0) = false ∧ Instr.wf (.ignoredWindowWrite 20 0) = true := by decide +kernel

/-! ### Keys, windows and rates (chapters 1 and 2) -/

/-- Section 1.2, the worked hash. -/
theorem test_worked_hash : key1.hash0 0 = 0x97E871AC ∧ key1.bucket 0 = 4028 := by decide +kernel

/-- R4: ICMP keeps the inside port, another protocol neither. -/
theorem test_normalise : (Key.normalise ⟨1, 1, 2, 3, 4, 5⟩) = ⟨1, 1, 2, 3, 4, 0⟩ ∧
    (Key.normalise ⟨1, 47, 2, 3, 4, 5⟩) = ⟨1, 47, 2, 0, 4, 0⟩ := by decide +kernel

/-- R27: two values half the count apart are each earlier than the other. -/
theorem test_half_the_count : signedDiff (2147483648 : Word) 0 = -2147483648 ∧
    signedDiff (0 : Word) 2147483648 = -2147483648 ∧ signedDiff (5 : Word) 4294967295 = 6 := by decide +kernel

/-- Section 2.4, slack at a glance: lines 1, 2, 4 and 6. -/
theorem test_slack_table :
    looseSlack 65536 16777216 12000 (lagOf 10509 10500) = 120000 ∧ looseSlack 65536 16777216 3000 (lagOf 10509 10489) = 65536 ∧
    looseSlack 65536 16777216 100 (lagOf 10509 9000000) = 409600 ∧
    looseSlack 65536 16777216 65535 (lagOf 10509 0) = 16777216 ∧ looseSlack 1000000 500000 1 5 = 500000 := by decide +kernel

/-- Section 2.7, the worked rate sequence. -/
theorem test_rate_sequence : smoothedRate 12000 150000 20010 20000 = 12375 ∧ smoothedRate 12375 0 20015 20010 = 10828 ∧
    smoothedRate 10828 10000000 20016 20015 = 17666 ∧ smoothedRate 17666 4000 20016 20016 = 15957 := by decide +kernel

/-- The unit after case 1 of section 2.8. -/
def case1 : State := after .check (asking (checkRequest 1 60000 1400 0 0) taken)
/-- After case 2. -/
def case2 : State := after .check (asking (checkRequest 21 960000 1000 512 61400) case1)
/-- After case 3. -/
def case3 : State := after .check (asking (checkRequest 1 61400 1400 0 0) case2)

/-- Section 2.8, case 1: PASS_LOOSE, slack 120,000, edge 61,400, version 32. -/
theorem test_check_case1 : answer case1 = some (.ok, [16112, 32, 1, 1, 120000, 0, 61400]) := by decide +kernel
/-- Case 2: PASS_LOOSE; wend_OUT 126,936, maxwin_OUT 65,536, and the record goes tight. -/
theorem test_check_case2 : answer case2 = some (.ok, [16112, 33, 1, 1, 120000, 0, 961000]) ∧
    ((case2.slot 16112).live?.bind (·.tcp)) = some ⟨⟨61400, 126936, 65536, 2⟩, ⟨961000, 950000, 65535, 7⟩⟩ := by decide +kernel
/-- Case 2 with the ack beyond the slack: ACK_AHEAD, the record unchanged. -/
theorem test_check_ack_ahead :
    answer (after .check (asking (checkRequest 21 960000 1000 512 191400) case1)) =
      some (.ok, [16112, 32, 4, 1, 120000, 0, 900000]) := by decide +kernel
/-- Case 3: judged tight, PASS. -/
theorem test_check_case3 : answer case3 = some (.ok, [16112, 34, 0, 0, 0, 0, 62800]) := by decide +kernel
/-- Case 4: half the space away reads as behind, BELOW. -/
theorem test_check_case4 : answer (after .check (asking (checkRequest 5 2148444648 0 0 0) case3)) =
    some (.ok, [16112, 34, 2, 0, 0, 0, 961000]) := by decide +kernel
/-- On a tight record the segment of case 1 gives ABOVE. -/
theorem test_check_tight_above : answer (after .check (asking (checkRequest 1 60000 1400 0 0)
    { taken with arb := { taken.arb with epoch := 6 } })) = some (.ok, [16112, 31, 3, 0, 0, 0, 4294950000]) := by decide +kernel
/-- R31: BAD_SLOT echoes the slot. -/
theorem test_check_bad_slot : answer (after .check (asking (request 7 [0x42000001, 0, 0, 0, 0, 0, 0, 0]) taken)) =
    some (.badSlot, [16896]) := by decide +kernel

/-! ### The Port Pool (chapter 4) -/

/-- R61, the table of lanes: ports of lane A and lane B for K of 0, 4, 5 and 64, and the lane-region starts. -/
theorem test_lanes : [0, 4, 5, 64].map (fun k => (laneStart k, lanePorts k .a, lanePorts k .b)) =
    [(1024, 32256, 32256), (1280, 32128, 32128), (1344, 32128, 32064), (5120, 30208, 30208)] := by decide +kernel

/-- R61: with K = 4, block 4 is lane A, block 5 lane B, block 1,007 lane B. -/
theorem test_blocks : [1280, 1343, 1344, 1407, 1408, 65471, 65472, 65535].map (laneOf 4) =
    [.a, .a, .b, .b, .a, .a, .b, .b] := by decide +kernel

/-- The pool of section 4.11: blocks 1,005 and 1,007 bound but for a quarantined and a free port. -/
def pool411 : Pool :=
  { Pool.initial with
    bound := ((List.range 64).map (· + 65344)).filterMap (fun p => if p = 65406 then none else some ⟨0, BitVec.ofNat 16 p⟩) ++
      ((List.range 64).map (· + 65472)).filterMap (fun p => if p = 65534 then none else some ⟨0, BitVec.ofNat 16 p⟩)
    quarantine := [⟨⟨0, 65406⟩, 0⟩]
    cursors := #v[65470, 1280, 1280, 1280] }

/-- Section 4.11: the two allocations of unit B, and the cursor after each. -/
theorem test_allocate_worked : pool411.allocate .b 0 = some 65534 ∧ (pool411.allocated 0 65534).cursor 0 = 65535 ∧
    (pool411.allocated 0 65534).allocate .b 0 = some 1344 ∧
    ((pool411.allocated 0 65534).allocated 0 1344).cursor 0 = 1345 := by decide +kernel

/-- Section 4.11: in BOTH mode the same request binds 65,470. -/
theorem test_allocate_both : Pool.allocate { pool411 with laneMode := .both } .b 0 = some 65470 := by decide +kernel

/-- Section 4.11: EXPLICIT of the quarantined port answers PORT_TAKEN, and of a static port is granted. -/
theorem test_explicit_worked :
    answer (after .insert (asking (request 1 [1, 2, 3, 17, 32, 65406]) { active with pool := pool411 })) = some (.portTaken, []) ∧
    (answer (after .insert (asking (request 1 [1, 2, 3, 17, 32, 1200]) { active with pool := pool411 }))).map (·.1) = some .ok := by
  decide +kernel

/-- R67: a release into a list of 512 frees the head early. -/
theorem test_quarantine_full :
    let s := { active with pool := { Pool.initial with
      bound := [⟨0, 33064⟩]
      quarantine := (List.range 512).map (fun i => ⟨⟨0, BitVec.ofNat 16 (40000 + i)⟩, 0⟩) } }
    let t := s.releasePort (some ⟨0, 33064⟩)
    (t.pool.quarantine.length, t.pool.quarantine.head?, t.pool.quarantine.getLast?, t.req.counters.quarantineEarly) =
      (512, some ⟨⟨0, 40001⟩, 0⟩, some ⟨⟨0, 33064⟩, 10510⟩, 1) := by decide +kernel

/-! ### The table and the delta queue (chapters 1 and 5) -/

/-- The crowded bucket of section 1.9, step 1 done: way 2 DOOMED, spill slots 16,384 and 16,385 taken. -/
def crowded : State :=
  let other (n : Nat) : Record := { rec1 with key := ⟨1, 17, BitVec.ofNat 32 n, 1, 1, 1⟩, tcp := none }
  { active with table := [(16112, ⟨5, .live (other 1)⟩), (16113, ⟨12, .live (other 2)⟩), (16114, ⟨42, .doomed (other 3)⟩),
      (16115, ⟨2, .live (other 4)⟩), (16384, ⟨1, .live { other 5 with home := some 1 }⟩),
      (16385, ⟨1, .live { other 6 with home := some 2 }⟩), (16386, ⟨7, .free⟩)] }

/-- An INSERT of the worked key, NAT NONE, with its TCP part. -/
def insertKey1 : Request := request 1 (key1.words ++ [3, 0] ++ tcp1.words)

/-- Section 1.9, step 2: placed in spill slot 16,386 at version 8, with home bucket 4,028. -/
theorem test_insert_spill : answer (after .insert (asking insertKey1 crowded)) = some (.ok, [16386, 8, 0, 0]) ∧
    (((after .insert (asking insertKey1 crowded)).slot 16386).live?.bind (·.home)) = some 4028 := by decide +kernel

/-- Section 1.9, step 3: a second INSERT answers EXISTS with slot 16,386 and version 8. -/
theorem test_insert_exists : answer (after .insert (asking insertKey1 (after .insert (asking insertKey1 crowded)))) =
    some (.exists_, [16386, 8, 0, 0, 0]) := by decide +kernel

/-- Section 5.8: slots 7, 40 and 300, and the queue at step 0. -/
def coalescing : State :=
  let r (n : Nat) (m : Marks) : Record := { rec1 with key := ⟨1, 17, BitVec.ofNat 32 n, 1, 1, 1⟩, tcp := none, marks := m }
  { active with
    table := [(7, ⟨20, .live { r 1 ⟨true, false, false⟩ with cls := 1, deadline := 20000, deadlineSent := 0 }⟩),
      (40, ⟨6, .live (r 2 ⟨true, false, false⟩)⟩), (300, ⟨3, .live (r 3 ⟨true, false, false⟩)⟩)]
    dq := ⟨[⟨300, .change⟩, ⟨7, .refresh⟩, ⟨40, .create⟩], false, 0⟩ }

/-- Section 5.8, step 2: an UPDATE merges into the CREATE. -/
theorem test_update_merges :
    let t := after .update (asking (request 4 [0x20028, 0, 5, 0, 0, 0, 0, 0]) coalescing)
    (t.dq.entries, (t.slot 40).version, t.req.counters.deltasCoalesced) =
      ([⟨300, .change⟩, ⟨7, .refresh⟩, ⟨40, .create⟩], 7, 1) := by decide +kernel

/-- Section 5.8, step 3: a TOUCH that meets the quantum merges REFRESH into REFRESH. -/
theorem test_touch_merges :
    let t := after .touch (asking (request 5 [7, 0, 0, 0, 0, 0]) coalescing)
    (t.dq.entries, (t.slot 7).version, t.req.counters.deltasCoalesced) =
      ([⟨300, .change⟩, ⟨7, .refresh⟩, ⟨40, .create⟩], 21, 1) := by decide +kernel

/-- Section 5.8, step 5: REMOVE with the expected version cancels the CREATE; the slot goes FREE. -/
theorem test_remove_cancels :
    let t := after .remove (asking (request 6 [0x10028, 6]) coalescing)
    (t.dq.entries, t.slot 40, t.req.counters.deltasCoalesced) =
      ([⟨300, .change⟩, ⟨7, .refresh⟩], ⟨7, .free⟩, 1) := by decide +kernel

/-- Section 1.5.6: a REMOVE with another expected version answers STALE_VERSION with the version. -/
theorem test_remove_stale : answer (after .remove (asking (request 6 [0x10028, 41]) coalescing)) = some (.staleVersion, [6]) := by
  decide +kernel

/-- Section 5.9, steps 1 and 2: a full queue marks the slot dirty, and a TOUCH is then suppressed. -/
theorem test_overflow :
    let s := { active with dq := ⟨queueOf 1024, false, 0⟩ }
    let t := after .update (asking (request 4 [0x23EF0, 0, 0, 0, 0, 0, 0, 0]) s)
    let u := after .touch (asking (request 5 [0x3EF0, 0, 0, 0, 0, 0]) t)
    (t.dirtyCount, t.latched .queueOverflow, t.req.counters.overflowMarks, u.req.counters.refreshSuppressed,
      (u.slot 16112).version, (u.slot 16112).live?.map (·.marks)) = (1, true, 1, 1, 33, some ⟨false, true, true⟩) := by
  decide +kernel

/-- Section 1.7, worked supersession: the CREATE for slot 1,007 frees slot 212 at version 9, and the DELETE behind it is ignored; the frame
is accepted after it (R112). -/
theorem test_supersession :
    let k : Key := ⟨0, 17, 1, 2, 3, 4⟩
    let s := { unitIn .standby .up with
      table := [(212, ⟨9, .live { rec1 with key := k, tcp := none, nat := some ⟨0, 40100⟩ }⟩), (1007, ⟨3, .free⟩)]
      pool := { Pool.initial with bound := [⟨0, 40100⟩] } }
    let f : Frame := .delta 0 [.full ⟨.create, 1007, 4, k, 1, false, 300, 0, some ⟨0, 40100⟩, none⟩, .delete 212 10 k]
    let t := after (.deltaReceived f.bytes) s
    (t.slot 212, (t.slot 1007).version, (t.slot 1007).live?.map (·.source), t.pool.condition ⟨0, 40100⟩, t.port.expected) =
      (⟨9, .free⟩, 4, some .peer, .bound, 0) ∧ ((idled t).slot 212, (idled t).port.expected) = (⟨9, .free⟩, 1) := by decide +kernel

/-- R16: a FREE slot reads its version and nothing else; a slot of 16,896 is refused. -/
theorem test_read_free_slot :
    answer (after .readSlot (asking (request 3 [16386]) crowded)) = some (.ok, [0, 7] ++ List.replicate 31 0) ∧
    answer (after .readSlot (asking (request 3 [16896]) crowded)) = some (.badSlot, []) := by decide +kernel

/-- R15: LOOKUP reports slot, version, class, source and looseness. -/
theorem test_lookup : answer (after .lookup (asking (request 2 key1.words) taken)) = some (.ok, [16112, 31, 3, 1, 1, 0, 0, 0]) := by
  decide +kernel

/-- Section 5.9, step 8: the end of a pass with no slot dirty latches CATCHUP_DONE. -/
theorem test_catchup_done :
    let t := after .catchupVisit { active with dq := ⟨[], true, 16895⟩ }
    (t.dq.catchup, t.latched .catchupDone) = (false, true) := by decide +kernel

/-! ### Aging (chapter 3) -/

/-- R47: at the default interval the hundredth millisecond takes a tick, which owes 1,056 visits. -/
theorem test_hundredth_millisecond :
    let s := { active with aging := ⟨99, 5, 7, 0⟩ }
    (after .millisecond s).aging = ⟨0, 6, 7, 1056⟩ ∧ (after .millisecond { s with aging := ⟨98, 5, 7, 0⟩ }).aging = ⟨99, 5, 7, 0⟩ := by
  decide +kernel

/-- TICK runs on to the tick, whatever remains of the interval. -/
theorem test_tick : (after .tick active).aging = ⟨0, 10511, 0, 1056⟩ ∧ (after .tick active).clock = 2500000 := by decide +kernel

/-- Section 3.6: not due at tick 20,497 (−3), expired at 20,513 (13 > 0). -/
theorem test_walker_expires :
    let s (tick : Word) := { holding { rec1 with tcp := none, cls := 1, deadline := 20500 } tick (unitIn .active .hello) with
      aging := ⟨0, tick, 16112, 1⟩ }
    (after .walkerVisit (s 20497)).slot 16112 = (s 20497).slot 16112 ∧
    (after .walkerVisit (s 20513)).slot 16112 = ⟨32, .free⟩ := by decide +kernel

/-- Section 3.7, slot 5,500: spared at a difference of 442, expired at 458. -/
theorem test_walker_allowance :
    let s (tick : Word) := { taken with
      table := [(5500, ⟨1, .live { rec1 with deadline := 10300 }⟩)], aging := ⟨0, tick, 5500, 1⟩ }
    ((after .walkerVisit (s 10742)).slot 5500).version = 1 ∧ (after .walkerVisit (s 10758)).slot 5500 = ⟨2, .free⟩ := by
  decide +kernel

/-- Section 3.6, ticks 20,040 and 20,130: a TOUCH short of the quantum owes a refresh, one past it queues a REFRESH. -/
theorem test_touch_quantum :
    let s (tick : Word) := holding { rec1 with tcp := none, cls := 1, deadline := 20340, deadlineSent := 20300 } tick active
    let t := after .touch (asking (request 5 [16112, 0, 0, 0, 0, 0]) (s 20040))
    let u := after .touch (asking (request 5 [16112, 0, 0, 0, 0, 0]) (s 20130))
    (t.dq.entries, (t.slot 16112).live?.map (·.marks.owed), u.dq.entries, (u.slot 16112).live?.map (·.deadline)) =
      ([], some true, [⟨16112, .refresh⟩], some 20430) := by decide +kernel

/-- Section 4.12, ticks 6,200 and 6,202: the head leaves when it has served 1,200. -/
theorem test_quarantine_hold :
    let s (tick : Word) := { active with
      aging := ⟨0, tick, 0, 0⟩
      due := ⟨false, false, false, false, false, true⟩
      pool := { Pool.initial with quarantine := [⟨⟨0, 40164⟩, 5002⟩, ⟨⟨1, 22080⟩, 5010⟩] } }
    (after .quarantineHoldExpiry (s 6200)).pool.quarantine.length = 2 ∧
    (after .quarantineHoldExpiry (s 6202)).pool.quarantine = [⟨⟨1, 22080⟩, 5010⟩] := by decide +kernel

/-! ### The Pair Port and the sweep (chapters 6 and 7) -/

/-- A frame in flight. -/
def flying (seq : Byte) (records : List Delta) (attempts : Nat) (sent : Option Nat) : InFlight := ⟨seq, records, attempts, sent, false⟩

/-- Section 6.8: frames 15 and 16 in flight, slot 300 DOOMED at version 4 with its DELETE in frame 15. -/
def lossy : State :=
  let s := unitIn .active .up
  { s with
    table := [(300, ⟨4, .doomed { rec1 with key := ⟨0, 17, 1, 2, 3, 4⟩, tcp := none }⟩)]
    port := { s.port with
      nextSeq := 17
      inFlight := [flying 15 [.delete 300 4 ⟨0, 17, 1, 2, 3, 4⟩] 1 (some 0), flying 16 [.sweepBegin] 1 (some 5000)] } }

/-- Section 6.8, time 5.0: 15 has gone 5 ms since its send, and both frames are resent. -/
theorem test_go_back :
    let t := after (.retransmitTimeout 0) { lossy with clock := 125000 }
    (t.port.inFlight.map (fun f => (f.seq, f.attempts)), t.port.tx.sending, t.port.tx.resend, t.req.counters.framesResent) =
      ([(15, 2), (16, 2)], some (.delta 15 [.delete 300 4 ⟨0, 17, 1, 2, 3, 4⟩]), [16], 2) := by decide +kernel

/-- One period short of 5 ms nothing is resent. -/
theorem test_go_back_not_yet : after (.retransmitTimeout 24999) { lossy with clock := 100000 } = { lossy with clock := 100000 } := by
  decide +kernel

/-- Section 6.8, time 5.4: ACK(16) retires frame 15, and the DOOMED slot goes FREE at its version. -/
theorem test_ack_retires :
    let t := after (.ackReceived (Frame.ack 16).bytes) lossy
    (t.slot 300, t.port.inFlight.map (·.seq)) = (⟨4, .free⟩, [16]) := by decide +kernel

/-- R105: an ACK with d above the number in flight is ignored. -/
theorem test_ack_ignored : (after (.ackReceived (Frame.ack 18).bytes) lossy).port.inFlight = lossy.port.inFlight := by decide +kernel

/-- Section 6.9, 30 ms: 5 ms past the sixth send the relation ends with EXHAUSTED, and the DOOMED slot goes FREE. -/
theorem test_exhausted :
    let s := { lossy with clock := 125000, port := { lossy.port with inFlight := [flying 40 [.sweepBegin] 6 (some 0)] } }
    let t := after (.retransmitTimeout 0) s
    (t.port.link, t.port.lastEnd, t.slot 300, t.req.counters.relationsEnded, t.latched .relationEnded, t.role) =
      (.hello, .exhausted, ⟨4, .free⟩, 1, true, .active) := by decide +kernel

/-- Section 6.8, time 0.3: a DELTA frame out of sequence is discarded, counted and answered with ACK(15). -/
theorem test_out_of_sequence :
    let s := { active with port := { active.port with expected := 15 } }
    let t := after (.deltaReceived (Frame.delta 16 [.sweepEnd]).bytes) s
    (t.port.expected, t.port.tx.sending, t.req.counters.framesDiscarded) = (15, some (.ack 15), 1) := by decide +kernel

/-- R99: the end of a transmission takes the waiting ACK before the BEAT. -/
theorem test_precedence :
    let s := { active with port := { active.port with tx :=
      { Transmitter.initial with sending := some (.ack 1), acks := [2], beat := some active.buildBeat } } }
    (after (.transmitDone 0) s).port.tx.sending = some (.ack 2) ∧
    (after (.transmitDone 0) (after (.transmitDone 0) s)).port.tx.sending = some (.beat active.buildBeat) := by decide +kernel

/-- R113: the silence limit of 3 ticks ends the relation with SILENT; one tick short nothing happens. -/
theorem test_silence_limit :
    let s (n : Nat) : State := { unitIn .standby .up with
      port := { (unitIn .standby .up).port with silence := some n }, due := ⟨false, true, false, false, false, false⟩ }
    (after .silenceTimeout (s 3)).port.lastEnd = .silent ∧ after .silenceTimeout (s 2) = s 2 := by decide +kernel

/-- R101: the heartbeat puts a BEAT and restarts the timer. -/
theorem test_heartbeat :
    let s := { active with
      port := { active.port with heartbeat := some 1 }, due := ⟨true, false, false, false, false, false⟩ }
    ((after .heartbeatTimeout s).port.heartbeat, (after .heartbeatTimeout s).port.tx.sending) =
      (some 0, some (.beat s.buildBeat)) := by decide +kernel

/-- R96, R119: carrier makes DOWN HELLO, and outside BOOT page 1 is sent at once with the exchange number bumped. -/
theorem test_carrier_up :
    let t := after .carrierUp (unitIn .listen .down)
    (t.port.link, t.hello.exchange, t.hello.ackToggle, t.port.tx.sending.isSome) = (.hello, 1, true, true) ∧
    (after .carrierUp (unitIn .boot .down)).hello = State.reset.hello := by decide +kernel

/-- R113: carrier lost while UP; the role STANDBY on a SILENT line takes over. -/
theorem test_carrier_loss :
    let t := after .carrierLoss (unitIn .standby .up)
    (t.port.link, t.port.lastEnd, t.role, t.arb.epoch, t.arb.grace) = (.down, .carrier, .takeover, 1, 600) := by decide +kernel

/-- Section 7.1, worked exchange at 10 ms: the repeat of page 1 acknowledges page 1, and the side moves on to page 2. -/
theorem test_exchange_moves_on :
    let s := unitIn .listen .hello
    let u := { s with hello := { s.hello with taken := 1, ackToggle := false, exchange := 1 } }
    let page : HelloPage := ⟨false, false, true, true, 1, 1, .identity ⟨1, 8, 7, .listen, 0⟩⟩
    let t := after (.helloPageReceived (Frame.hello page).bytes) u
    (t.hello.ownPage, t.hello.toggle, t.hello.taken) = (2, true, 1) := by decide +kernel

/-- R124, R126: a peer with this unit's own letter is refused LOCAL on page 1. -/
theorem test_same_letter_refused :
    let page : HelloPage := ⟨false, true, true, true, 1, 0, .identity ⟨0, 8, 7, .listen, 0⟩⟩
    let t := after (.helloPageReceived (Frame.hello page).bytes) (unitIn .listen .hello)
    (t.port.link, t.hello.refusal, t.latched .incompatible) = (.refused, some ⟨1, false⟩, true) := by decide +kernel

/-- R196: a unit letter byte above 1 equals no other, and is compatible. -/
theorem test_odd_letter_taken :
    let page : HelloPage := ⟨false, true, true, true, 1, 0, .identity ⟨2, 8, 7, .listen, 0⟩⟩
    (after (.helloPageReceived (Frame.hello page).bytes) (unitIn .listen .hello)).hello.taken = 1 := by decide +kernel

/-- R125: a page 1 in UP ends the relation with HELLO_SEEN and is taken; a page 4 is discarded. -/
theorem test_hello_in_up :
    let page (c : PageContent) : HelloPage := ⟨false, true, true, true, 1, 0, c⟩
    let t := after (.helloInUp (Frame.hello (page (.identity ⟨1, 8, 7, .listen, 0⟩))).bytes) active
    (t.port.link, t.port.lastEnd, t.hello.taken) = (.hello, .helloSeen, 1) ∧
    (after (.helloInUp (Frame.hello (page (.timers 100))).bytes) active).up = true := by decide +kernel

/-- R120: 10 ms after the last page the current page goes again; R123: 500 ms restart the exchange. -/
theorem test_hello_timers :
    (after (.helloPacing 0) { unitIn .listen .hello with clock := 250000 }).hello.pacingSince = 250000 ∧
    (after (.helloTimeout 0) { unitIn .listen .hello with clock := 12500000 }).hello.exchange = 1 := by decide +kernel

/-- Section 7.5 at step 5: cursor 256, entries for slots 40 and 300 queued. -/
def sweeping : State :=
  let r (n : Nat) (m : Marks) : Record := { rec1 with key := ⟨1, 17, BitVec.ofNat 32 n, 1, 1, 1⟩, tcp := none, marks := m }
  let s := unitIn .active .up
  { s with
    table := [(40, ⟨13, .live (r 40 ⟨true, false, false⟩)⟩), (300, ⟨4, .live (r 300 ⟨true, false, false⟩)⟩)]
    dq := ⟨[⟨40, .change⟩, ⟨300, .change⟩], false, 0⟩
    sweep := ⟨.sweeping, 256, 256⟩ }

/-- Section 7.5, step 5: 40 is sent, 300 is dropped and filled by the scan of 256 to 511. -/
theorem test_sweep_step5 :
    let t := after .frameBuild sweeping
    t.dq.entries = [] ∧ t.sweep.cursor = 512 ∧ t.port.inFlight.flatMap (·.records.map (fun d => match d with
      | .full d => (d.kind, d.slot.toNat, d.version.toNat)
      | _ => (.create, 0, 0))) = [(.change, 40, 13), (.fill, 300, 4)] := by decide +kernel

/-- Section 7.5, step 12: the scan of 16,640 to 16,895 finds nothing, SWEEP_END is placed, DRAINING. -/
theorem test_sweep_end :
    let t := after .frameBuild { unitIn .active .up with sweep := ⟨.sweeping, 16640, 0⟩ }
    (t.sweep.state, t.sweep.cursor, t.port.inFlight.map (fun f => (f.records, f.endsSweep))) =
      (.draining, 16896, [([.sweepEnd], true)]) := by decide +kernel

/-- R115: LOOP_TEST INTERNAL in BOOT goes to LOOPBACK with 64 probes; in any other role it answers NOT_READY. -/
theorem test_loop_internal :
    let t := after .loopTestInternal (asking (request 8 [0]) State.reset)
    (t.port.link, t.port.tx.outbound.length, t.req.running.isSome) = (.loopback, 63, true) ∧
    answer (after .loopTestInternal (asking (request 8 [0]) active)) = some (.notReady, []) := by decide +kernel

/-- R116: LOOP_TEST FAR, its outbound probe at the peer, and the probe returned counted once. -/
theorem test_loop_far :
    let s := after .loopTestFar (asking (request 8 [1]) active)
    let p : Probe := ⟨3, 1, probePattern 3⟩
    let t := after (.probeReturned (Frame.probe p).bytes) s
    (t.req.running.map (·.counted), (after (.probeReturned (Frame.probe p).bytes) t).req.running.map (·.counted)) =
      (some [3], some [3]) ∧
    (after (.probeOutboundReceived (Frame.probe ⟨3, 0, probePattern 3⟩).bytes) active).port.tx.sending = some (.probe p) := by
  decide +kernel

/-- R115: 100 ms after the first probe the test completes with the counts. -/
theorem test_loop_timeout :
    let s := { State.reset with
      clock := 2500000
      port := { PairPort.initial with link := .loopback }
      req := { RequestPort.initial with running := some ⟨7, false, 64, [0, 1], some 0, false⟩ } }
    (answer (after (.loopTestTimeout 0) s), (after (.loopTestTimeout 0) s).port.link) = (some (.ok, [64, 2]), .down) := by
  decide +kernel

/-- R116: of two outbound probes that end, the one of an earlier test counts for nothing and begins no 100 ms. -/
theorem test_earlier_probe :
    let s := after .loopTestFar (asking (request 8 [1]) { active with
      port := { active.port with tx := { Transmitter.initial with sending := some (.probe ⟨63, 0, probePattern 63⟩) } } })
    let t := after (.transmitDone 0) { s with clock := 250000 }
    let u := after (.transmitDone 0) { t with clock := 500000 }
    [t, u].map (fun s => s.req.running.map (fun u => (u.sent, u.since))) = [some (0, none), some (1, some 500000)] := by
  decide +kernel

/-- R98, R194: a frame with format 2 is counted; a frame of another type is not. -/
theorem test_rejected : (after (.frameRejected 34998 true true [2, 4, 0, 0]) active).req.counters.framesDiscarded = 1 ∧
    after (.frameRejected 2048 true true [2, 4, 0, 0]) active = active := by decide +kernel

/-! ### The role line (chapter 8) -/

/-- R138: the rising edges of each pattern within a repetition, in bit times of 4 ms. -/
theorem test_pattern_edges : [LinePattern.active, .standby, .waiting].map (fun p =>
    (List.range 12).filter (fun i => p.level i && !(decide (0 < i) && p.level (i - 1)))) = [[0, 4], [0, 2, 5, 7], [0, 3, 7]] := by
  decide +kernel

/-- Section 8.5, time 64: an ACTIVE repetition of 48 ms matches, count 1, the class still STANDBY; time 112: the class ACTIVE. -/
theorem test_line_takeover :
    let m : Monitor := ⟨.standby, .aligned 0, LinePattern.active.bits, .standby, 0, 1, false, some 0⟩
    let s := { unitIn .active .hello with clock := 1200000, monitor := m }
    let t := after (.lineRepetitionJudged 0 400000) s
    let u := after (.lineRepetitionJudged 0 400000)
      { t with clock := 2400000, monitor := { t.monitor with samples := LinePattern.active.bits } }
    (t.monitor.cls, t.monitor.matchPattern, t.monitor.matchCount, t.monitor.missRun, u.monitor.cls, u.role) =
      (.standby, .active, 1, 0, .active, .active) := by decide +kernel

/-- Section 8.5, time 16: a repetition cut at 26 ms is unmatched and counted. -/
theorem test_line_cut :
    let m : Monitor := ⟨.standby, .aligned 0, [true, false, true, true, false, false], .standby, 2, 0, false, some 0⟩
    let t := after (.lineRepetitionJudged 0 400000) { unitIn .active .hello with clock := 650000, monitor := m }
    (t.monitor.cls, t.monitor.matchCount, t.monitor.missRun, t.req.counters.lineGarbled) = (.standby, 0, 1, 1) := by decide +kernel

/-- Section 8.6, time 10: the 50 ms closure; time 58: a period with no edge records nothing; time 96: SILENT. -/
theorem test_line_silent :
    let m : Monitor := ⟨.active, .aligned 0, LinePattern.active.bits, .active, 2, 0, false, some 400000⟩
    let s := { unitIn .standby .up with clock := 1250000, monitor := m }
    let t := after (.repetitionClosureTimeout 0) s
    let u := after (.unalignedPeriodEnd 0) { t with clock := 2450000 }
    let v := after (.lineSilenceTimeout 0) { u with clock := 3400000 }
    (t.monitor.missRun, t.monitor.alignment, u.monitor.missRun, v.monitor.cls, v.monitor.missRun, v.latched .lineFault,
      v.req.counters.lineGarbled) = (1, .unaligned 1250000, 1, .silent, 0, true, 1) := by decide +kernel

/-- R141: the sample at 2 ms is stored, and one a period late is not. -/
theorem test_sample :
    let s (clock : Nat) : State := { State.reset with
      clock := clock, monitor := { Monitor.initial 0 with alignment := .aligned 0 } }
    (after (.midBitSample 0 true) (s 50000)).monitor.samples = [true] ∧ (after (.midBitSample 1 true) (s 50000)).monitor.samples = [] := by
  decide +kernel

/-- R144: a rising edge after a short low run restarts the silence timer and does not align the monitor. -/
theorem test_rising_edge :
    let t := after (.lineRisingEdge 0 100000) { State.reset with clock := 50000 }
    (t.monitor.lastRise, t.monitor.alignment, t.monitor.edgeSeen) = (some 50000, .unaligned 0, true) := by decide +kernel

/-- R140: a change in a high bit drives the line low for 16 ms before bit 1 of the new pattern; bits then last 4 ms. -/
theorem test_driver :
    let d := (Driver.mk (some .standby) (some 2) 1000000 none).setPattern 1050000 (some .active)
    let s := { State.reset with clock := 1450000, driver := d }
    let t := after (.driverBitTime 0) s
    (d.level, d.bit, t.driver.bit, t.driver.level, (after (.driverBitTime 0) { t with clock := 1550000 }).driver.bit) =
      (false, none, some 0, true, some 1) := by decide +kernel

/-! ### The Role Arbiter (chapter 9) -/

/-- Section 9.10, tick 10,509: the relation ends by silence on a SILENT line, and unit B takes over. -/
theorem test_failover :
    let s := holding rec1 10509 (unitIn .standby .up)
    let t := after .silenceTimeout { s with
      letter := .b
      port := { s.port with silence := some 3 }
      arb := { s.arb with epoch := 6 }
      due := ⟨false, true, false, false, false, false⟩ }
    (t.role, t.arb.epoch, t.arb.takeoverTick, t.arb.grace, t.pool.laneMode) = (.takeover, 7, 10509, 600, .own) ∧
    (t.driver.pattern, t.latched .partialTakeover, t.loose rec1, t.slackFor rec1) = (some .active, false, true, 120000) := by
  decide +kernel

/-- Section 9.10, tick 10,530: the TOUCH makes the rate 12,375 and the deadline 12,330. -/
theorem test_failover_touch :
    let t := after .touch (asking (request 5 [16112, 450000, 0, 0, 0, 0]) { taken with aging := ⟨0, 10530, 0, 0⟩ })
    (t.slot 16112).live?.map (fun r => (r.rate, r.deadline, r.marks.owed)) = some (12375, 12330, false) := by decide +kernel

/-- Section 4.13, tick 11,109: grace ends with no relation, and the lane mode becomes BOTH. -/
theorem test_grace_end :
    let t := after .graceEnd { taken with arb := { taken.arb with grace := 0 } }
    (t.role, t.pool.laneMode, t.latched .graceEnded) = (.active, .both, true) := by decide +kernel

/-- R154: unit A goes ACTIVE at the end of a listen period, unit B waits a second one. -/
theorem test_listen :
    let s := { unitIn .listen .hello with
      arb := { (unitIn .listen .hello).arb with listen := some (.first, 30) }, due := ⟨false, false, true, false, false, false⟩ }
    ((after .listenPeriodEnd s).role, (after .listenPeriodEnd { s with letter := .b }).arb.listen) =
      (.active, some (.second, 0)) := by decide +kernel

/-- R154: unit B goes ISOLATED at the end of the second period on an ACTIVE line. -/
theorem test_second_listen :
    let s := { unitIn .listen .hello with
      letter := .b
      monitor := { (unitIn .listen .hello).monitor with cls := .active }
      arb := { (unitIn .listen .hello).arb with listen := some (.second, 30) }, due := ⟨false, false, true, false, false, false⟩ }
    (after .secondListenEnd s).role = .isolated := by decide +kernel

/-- R155: unit B on a WAITING line staggers, and takes over when the listen period has run. -/
theorem test_stagger :
    let s := { unitIn .standby .up with letter := .b, monitor := { (unitIn .standby .up).monitor with cls := .waiting } }
    let t := after .carrierLoss s
    let u := after .staggerEnd { t with
      arb := { t.arb with listen := some (.stagger, 30) }, due := ⟨false, false, true, false, false, false⟩ }
    (t.role, t.arb.listen, u.role) = (.standby, some (.stagger, 0), .takeover) := by decide +kernel

/-- R162: unit B, ACTIVE with no relation, goes ISOLATED when the line turns ACTIVE. -/
theorem test_line_rule :
    let m : Monitor := ⟨.waiting, .aligned 0, LinePattern.active.bits, .active, 1, 0, false, some 0⟩
    let t := after (.lineRepetitionJudged 0 400000)
      { unitIn .active .hello with letter := .b, clock := 1200000, monitor := m }
    (t.role, t.latched .splitResolved) = (.isolated, true) := by decide +kernel

/-- R160: a BEAT that shows a higher peer ACTIVE makes this unit stand down to JOINING. -/
theorem test_split_lower :
    let b : Beat := ⟨.active, 7, 9, true, false, false, .idle, 0⟩
    let t := after (.beatReceived (Frame.beat b).bytes) active
    (t.role, t.latched .splitResolved, t.arb.peer.priority) = (.joining, true, 9) := by decide +kernel

/-- Section 9.11, tick 3,050: the health hold of 50 begins the yield; the marker waits behind the two entries. -/
theorem test_health_hold_yield :
    let s := { coalescing with
      arb := { coalescing.arb with
        health := 4, healthHold := some 50, peer := ⟨some .standby, 7, 8, 1, 0, .idle, false, false⟩ }
      due := ⟨false, false, false, true, false, false⟩ }
    let t := after .healthHoldYield s
    let u := after .frameBuild t
    (t.role, t.arb.yieldTimer, t.port.yieldMarker, u.port.inFlight.map (fun f => f.records.getLast?)) =
      (.yielding, some 0, false, [some .yieldMarker]) := by decide +kernel

/-- Section 9.11, tick 3,051: a BEAT that shows the peer in TAKEOVER ends the yield in STANDBY. -/
theorem test_yield_ends :
    let b : Beat := ⟨.takeover, 7, 8, true, false, false, .idle, 0⟩
    (after (.beatReceived (Frame.beat b).bytes) (unitIn .yielding .up)).role = .standby := by decide +kernel

/-- R165: a yield that reaches 20 ticks returns to ACTIVE with YIELD_FAILED. -/
theorem test_yield_timeout :
    let s := unitIn .yielding .up
    let t := after .yieldTimeout { s with
      arb := { s.arb with yieldTimer := some 20 }, due := ⟨false, false, false, false, true, false⟩ }
    (t.role, t.latched .yieldFailed) = (.active, true) := by decide +kernel

/-- R164: a STANDBY unit that applies a YIELD marker takes over with the yield-taken flag set. -/
theorem test_yield_taken :
    let t := after (.deltaReceived (Frame.delta 0 [.yieldMarker]).bytes) (unitIn .standby .up)
    (t.role, t.arb.yieldTaken, t.arb.epoch) = (.takeover, true, 1) := by decide +kernel

/-- R168: FORCE_ACTIVE with a relation UP answers PEER_PRESENT, and without one takes over. -/
theorem test_force_active :
    answer (after .forceActive (asking (request 11 [0]) (unitIn .standby .up))) = some (.peerPresent, [3, 0]) ∧
    answer (after .forceActive (asking (request 11 [0]) (unitIn .standby .hello))) = some (.ok, [5, 0]) := by decide +kernel

/-- R167: HOLD_STANDBY and RELEASE_HOLD write the flag; a released LISTEN unit A whose timer had stopped goes ACTIVE. -/
theorem test_hold :
    answer (after .holdStandby (asking (request 11 [1]) (unitIn .standby .up))) = some (.ok, [3, 1]) ∧
    answer (after .releaseHold (asking (request 11 [2])
      { unitIn .listen .hello with arb := { (unitIn .listen .hello).arb with hold := true } })) = some (.ok, [4, 0]) := by
  decide +kernel

/-- R169: a YIELD whose conditions fail answers NOT_READY with the role unchanged. -/
theorem test_yield_refused : answer (after .roleRequestYield (asking (request 11 [3]) active)) = some (.notReady, [4, 0]) := by
  decide +kernel

/-- R170: a level above 7 is refused; a new one restarts the exchange in HELLO. -/
theorem test_health :
    answer (after .health (asking (request 10 [8]) active)) = some (.badRequest, []) ∧
    (after .health (asking (request 10 [0x304]) (unitIn .listen .hello))).arb.health = 4 ∧
    (after .health (asking (request 10 [4]) (unitIn .listen .hello))).hello.exchange = 1 := by decide +kernel

/-- R127: RETRY_PAIR leaves REFUSED. -/
theorem test_retry_pair : (after .retryPair (asking (request 9 []) (unitIn .listen .refused))).port.link = .hello ∧
    (after .retryPair (asking (request 9 []) active)).port = active.port := by decide +kernel

/-! ### The Request Port (chapter 10) and resets -/

/-- R174, R191: a header of length 1 waits for its word; a narrow write has its unwritten bytes 0. -/
theorem test_window_write :
    let s := after (.requestWindowWrite 0x0C200007 15) State.reset
    let t := after (.requestWindowWrite 0xFFFF3EF0 3) s
    (s.req.assembling, t.req.assembling, t.req.queue) = (some ⟨0x0C200007, []⟩, none, [⟨0x0C200007, [0x3EF0]⟩]) := by decide +kernel

/-- Section 10.11, step 2: the 33rd request is dropped whole. -/
theorem test_overrun :
    let s := { State.reset with req := { RequestPort.initial with queue := List.replicate 32 (request 14 []) } }
    let t := after (.requestWindowWrite 0x38000007 15) s
    (t.req.queue.length, t.req.drops, t.latched .requestOverrun) = (32, 1, true) := by decide +kernel

/-- R178, R193: the header then the result; an empty queue reads the word 0. -/
theorem test_completion_read :
    let s := after .health (asking (request 10 [4]) State.reset)
    let t := after .completionWindowRead s
    let u := after .completionWindowRead t
    (t.busData, u.busData, u.req.completions, (after .completionWindowRead u).busData) =
      (BitVec.ofNat 32 (10 * 67108864 + 1 * 4194304 + 1 * 65536 + 7), 4, [], 0) := by decide +kernel

/-- R191: the queue levels: requests in bits 5–0, completions in bits 14–8, drops in bits 31–16. -/
theorem test_queue_levels :
    let s := { State.reset with req := { RequestPort.initial with
      queue := List.replicate 3 (request 14 []), completions := [⟨1, .ok, 2, []⟩], drops := 5 } }
    s.quietRead 8 = 0x00050103 := by decide +kernel

/-- R179, R180: the interrupt follows latch and enable; a read clears the latch. -/
theorem test_interrupt :
    let s := after .health (asking (request 10 [4]) State.reset)
    let t := after (.eventEnableWrite 0x4000 15) s
    let u := after .eventLatchRead t
    (s.intN, t.intN, u.intN, u.busData, u.req.latch) = (true, false, true, 0x4000, 0) := by decide +kernel

/-- R191: a write to an item that takes none changes nothing. -/
theorem test_ignored_write : after (.ignoredWindowWrite 20 1) active = active := by decide +kernel

/-- Section 10.6, worked example: K not applied, grace 900, listen period clamped to 10, slack ceiling to 2^30. -/
theorem test_set_config :
    let s := unitIn .standby .up
    let held := { s with cfg := { s.cfg with staticBlocks := 8, grace := 1200 } }
    let t := after .setConfig (asking (request 12 [100, 1, 3, 5, 900, 50, 20, 8, 0, 36000, 300, 1200, 1800, 300, 600, 600, 600,
      65536, 2147483648, 1, 0, 0, 0, 0, 6, 1200, 256, 0]) held)
    (answer t, t.cfg.staticBlocks, t.cfg.grace, t.cfg.listenPeriod, t.cfg.slackCeiling) =
      (some (.ok, [0x808, 0x4000]), 8, 900, 10, 1073741824) := by decide +kernel

/-- R186, R75: START frees a record that does not sit in its bucket, binds the port of one that does, and goes to LISTEN. -/
theorem test_start :
    let s := { State.reset with table := [(5, ⟨1, .live rec1⟩), (16112, ⟨31, .live { rec1 with nat := some ⟨0, 40000⟩ }⟩)] }
    let t := after .start (asking (request 13 []) s)
    (answer t, t.role, t.slot 5, t.pool.condition ⟨0, 40000⟩, t.driver.pattern) =
      (some (.ok, [1]), .listen, ⟨1, .free⟩, .bound, some .waiting) := by decide +kernel

/-- R187: READ_STATUS after power-on: BOOT, held low, health 7, priority 8, a SILENT line, no peer, lane A free. -/
theorem test_read_status : answer (after .readStatus (asking (request 14 []) State.reset)) =
    some (.ok, [0, 3, 7, 0, 0, 8, 0, 0, 0, 0, 3, 0, 8, 0, 0, 0, 0, 0, 0, 0, 0, 0, 0, 0, 0, 0, 0, 0, 0, 32128, 0]) := by
  decide +kernel

/-- R182: READ_COUNTERS returns nine values and clears them. -/
theorem test_read_counters :
    let s := { State.reset with req := { RequestPort.initial with counters := ⟨1, 2, 3, 4, 5, 6, 7, 8⟩, drops := 9 } }
    let t := after .readCounters (asking (request 15 []) { s with req := { s.req with queue := [] } })
    (answer t, t.req.counters, t.req.drops) = (some (.ok, [1, 2, 3, 4, 5, 6, 7, 8, 9]), ⟨0, 0, 0, 0, 0, 0, 0, 0⟩, 0) := by
  decide +kernel

/-- R188, R189: SOFT_RESET keeps the LIVE record and the epoch, goes to BOOT, and leaves its own completion. -/
theorem test_soft_reset :
    let t := after .softReset (asking (request 16 []) taken)
    (t.role, (t.slot 16112).version, t.arb.epoch, t.req.latch, t.req.completions.length, t.aging.ticks, t.driver.level) =
      (.boot, 31, 7, 0xC000, 1, 10510, false) := by decide +kernel

/-- R176: an unknown kind, a wrong length and a LOOP_TEST mode 2 answer BAD_REQUEST; a later role check of ROLE_REQUEST does not. -/
theorem test_unknown :
    answer (after .unknownRequest (asking (request 0 []) active)) = some (.badRequest, []) ∧
    answer (after .unknownRequest (asking (request 2 [1]) active)) = some (.badRequest, []) ∧
    answer (after .unknownRequest (asking (request 8 [2]) active)) = some (.badRequest, []) := by decide +kernel

/-- R176: a request waits while the completion queue holds 64. -/
theorem test_full_completions :
    let s := asking (request 14 []) { State.reset with req := { RequestPort.initial with
      completions := List.replicate 64 ⟨1, .ok, 0, []⟩ } }
    let u := { s with req := { s.req with completions := List.replicate 64 ⟨1, .ok, 0, []⟩ } }
    after .readStatus u = u := by decide +kernel

/-- R197: the reset pin holds the part, the window reads 0, and the rising edge samples the strap. -/
theorem test_reset_pin :
    let s := after .hardReset active
    ((after .completionWindowRead s).busData, after .tick s, (after (.resetRelease true) s).letter, s.role, s.table) =
      (0, s, .b, .boot, []) := by decide +kernel

/-- R197: power-on samples the strap: low for unit A. -/
theorem test_power_on : (after (.powerOn false) active).letter = .a ∧ (after (.powerOn false) active).table = [] := by decide +kernel

/-! ### Formats (chapter 11) -/

/-- R194 to R196: frames written out byte by byte. -/
theorem test_frame_bytes :
    (Frame.ack 15).bytes = [1, 4, 15, 0] ∧
    (Frame.beat ⟨.yielding, 4, 9, true, true, false, .sweeping, 0x0102⟩).bytes = [1, 2, 0, 0, 6, 0x94, 0x0B, 0, 1, 2, 0, 0] ∧
    (Frame.delta 7 [.delete 0x3EF0 31 key1]).bytes = [1, 3, 7, 1, 0x40, 0, 0x3E, 0xF0, 0, 0, 0, 31, 0xC0, 0xA8, 1, 0x14, 0xCB, 0,
      0x71, 5, 0x9C, 0x40, 1, 0xBB, 0, 0, 0, 6] ∧
    (Frame.hello ⟨true, false, true, true, 3, 4, .timers 100⟩).bytes =
      [1, 1, 0, 0, 4, 0x0D, 3, 4, 0, 100] ++ List.replicate 18 0 := by decide +kernel

/-- R195: a full record takes 8 words, 9 with a NAT part, 16 with both parts. -/
theorem test_record_lengths :
    let d (nat : Option NatPart) (tcp : Option TcpPart) : Delta := .full ⟨.create, 1, 2, key1, 3, true, 4, 5, nat, tcp⟩
    ((d none none).words.length, (d (some ⟨0, 1⟩) none).words.length, (d (some ⟨0, 1⟩) (some tcp1)).words.length) = (8, 9, 16) := by
  decide +kernel

/-- R194: each reason to discard a frame. -/
theorem test_bad_forms :
    parseFrame [2, 4, 0, 0] = none ∧ parseFrame [1, 6, 0, 0] = none ∧ parseFrame [1, 3, 0, 0] = none ∧
    parseFrame [1, 3, 0, 21] = none ∧ parseFrame ([1, 3, 0, 1, 0x90] ++ List.replicate 41 0) = none ∧
    parseFrame ([1, 2, 0, 0, 8] ++ List.replicate 41 0) = none ∧
    parseFrame ([1, 2, 0, 0, 0, 0, 0x18] ++ List.replicate 39 0) = none ∧
    parseFrame ([1, 1, 0, 0, 5] ++ List.replicate 41 0) = none ∧ parseFrame ([1, 5, 0, 0] ++ List.replicate 31 0) = none := by
  decide +kernel

/-- R194: a full record whose TCP flag disagrees with its protocol. -/
theorem test_tcp_flag : parseFrame (Frame.delta 0 [.full ⟨.create, 1, 2, key1, 3, true, 4, 5, none, none⟩]).bytes = none := by
  decide +kernel

/-! ### Witnesses: a concrete state that meets every hypothesis of each claim, one for each clause -/

/-- A STANDBY unit with two records of a DELTA frame in progress. -/
def midFrame : State :=
  let s := holding rec1 10510 (unitIn .standby .up)
  { s with port := { s.port with applying := [.delete 16112 33 key1, .yieldMarker] } }

/-- A command in front; none, with and without a frame in progress; and each kind of frame that finishes one. -/
theorem witness_StepRunsTheFrontCommand :
    ({ active with pending := [.tick, .insert] } : State).pending = .tick :: [.insert] ∧ active.pending = [] ∧
    active.port.applying = [] ∧ midFrame.resetLow = false ∧ midFrame.up = true ∧
    (let probe (d : Byte) := (Frame.probe ⟨3, d, List.replicate 32 0⟩).bytes
    let page := (Frame.hello ⟨false, true, true, true, 1, 0, .identity ⟨1, 8, 7, .listen, 0⟩⟩).bytes
    let beat := (Frame.beat ⟨.active, 7, 8, true, false, false, .idle, 0⟩).bytes
    let frames := [Instr.ackReceived (Frame.ack 0).bytes, .beatReceived beat, .helloInUp page,
      .deltaReceived (Frame.delta 9 [.sweepEnd]).bytes, .probeOutboundReceived (probe 0), .probeReturned (probe 1)]
    (∀ c ∈ frames, bringsFrame c = true) ∧ midFrame.port.applying ≠ [] ∧
    ((idled midFrame).role, (idled (idled midFrame)).role) = (.standby, .takeover) ∧
    frames.map (fun c => (after c midFrame).arb.epoch) = [1, 1, 1, 1, 1, 1]) := by decide +kernel

/-- R112: between two records of a frame a READ_SLOT, an UPDATE and a visit of the walker find the table as the first record left it, and
the second record applies to what they leave. -/
theorem test_frame_interleaved :
    let d (v : Word) : FullDelta := ⟨.create, 16113, v, key1, 3, false, 5, 6, none, some tcp1⟩
    let s := after (.deltaReceived (Frame.delta 0 [.full (d 4), .delete 16113 6 key1]).bytes) (unitIn .active .up)
    let updated := after .update (asking (request 4 [0x23EF1, 0, 0, 0, 0, 0, 0, 0]) s)
    let visited := after .walkerVisit { s with aging := ⟨0, 0, 16113, 1⟩ }
    ((s.slot 16113).version, s.port.expected, s.port.applying.length) = (4, 0, 1) ∧
    answer (after .readSlot (asking (request 3 [16113]) s)) ≠ answer (after .readSlot (asking (request 3 [16113]) (idled s))) ∧
    (updated.slot 16113).version = 5 ∧ visited.aging.position = 16114 ∧
    [updated, visited].map (fun t => ((idled t).slot 16113, (idled t).port.expected, (idled t).port.applying)) =
      [(⟨6, .free⟩, 1, []), (⟨6, .free⟩, 1, [])] := by decide +kernel

/-- The end of the relation, and a SOFT_RESET, drop the rest of a frame in progress, which is not acknowledged (assumption 48). -/
theorem test_frame_dropped :
    [after .carrierLoss midFrame, after .softReset (asking (request 16 []) midFrame)].map
      (fun t => (t.port.applying, t.port.expected, (t.slot 16112).version, (t.slot 16112).live?.isSome)) =
      [([], 0, 31, true), ([], 0, 31, true)] := by decide +kernel

/-- The executor that waits: 64 completions, a LOOP_TEST held, another request at the head, and none. -/
theorem witness_EveryCommandAnswers :
    let r := request 13 []
    let full : State := { asking r active with req := { (asking r active).req with completions := List.replicate 64 ⟨1, .ok, 2, []⟩ } }
    let held : State := { asking r active with req := { (asking r active).req with running := some ⟨7, true, 0, [], none, false⟩ } }
    isRequest .start ∧ isRequest .unknownRequest ∧ 64 ≤ full.req.completions.length ∧ held.req.running ≠ none ∧
    (asking (request 14 []) active).req.queue.head? = some (request 14 []) ∧ ¬ rowOf .start (request 14 []) ∧ rowOf .start r ∧
    ¬ rowOf .unknownRequest r ∧ rowOf .unknownRequest (request 0 []) ∧ rowOf .unknownRequest (request 11 [4]) ∧
    active.req.queue.head? = none ∧ full.resetLow = false ∧
    ∀ s ∈ [full, held, asking (request 14 []) active, active], after .start s = s := by
  refine ⟨Or.inr ⟨(.start, 13, 0, none), by decide, rfl⟩, Or.inl rfl, by decide +kernel, by decide +kernel, rfl,
    ?_, ?_, ?_, ?_, ?_, rfl, rfl, by decide +kernel⟩ <;> unfold rowOf <;> decide +kernel

/-- A unit with something in every part an invariant speaks of. -/
def lively : State :=
  { coalescing with
    pending := [.remove]
    req := { coalescing.req with queue := [request 6 [0x10028, 6]], completions := [⟨1, .ok, 2, []⟩], drops := 65535 }
    pool := { Pool.initial with bound := [⟨0, 40000⟩, ⟨1, 1300⟩], quarantine := [⟨⟨0, 41000⟩, 9⟩] }
    port := { coalescing.port with nextSeq := 1, inFlight := [flying 255 [.sweepBegin] 1 none, flying 0 [.sweepEnd] 1 none] } }

/-- For TableStaysCanonical, RequestPortStaysBounded, DeltaQueueStaysBounded, PoolStaysSound and LinePatternFollowsRole. -/
theorem witness_invariants : tableWf lively.table = true ∧ lively.req.bounded ∧ lively.dq.bounded ∧ lively.pool.sound ∧
    lively.lineFollowsRole ∧ ∃ t, step lively = .next t := by
  refine ⟨by decide +kernel, ?_, ?_, ?_, ?_, _, rfl⟩
  · unfold RequestPort.bounded Counters.bounded; decide +kernel
  · unfold DeltaQueue.bounded; decide +kernel
  · unfold Pool.sound; decide +kernel
  · unfold State.lineFollowsRole; decide +kernel

theorem witness_FramesStayNumbered : lively.port.numbered ∧ ∃ t, step lively = .next t := by
  refine ⟨⟨by decide +kernel, ?_⟩, _, rfl⟩
  intro k f h
  match k with
  | 0 => cases h; decide +kernel
  | 1 => cases h; decide +kernel
  | k + 2 => exact absurd h (by simp [lively])

theorem witness_RelationStaysSound : lively.relationSound ∧ (∃ t, step lively = .next t) ∧
    ({ State.reset with pending := [.tick] } : State).relationSound := by
  refine ⟨⟨?_, ?_, ?_, ?_⟩, ⟨_, rfl⟩, ?_⟩
  · unfold PairPort.linkByCarrier; decide +kernel
  · intro h; exact absurd h (by decide +kernel)
  · intro _; decide +kernel
  · intro h; exact absurd h (by decide +kernel)
  · refine ⟨?_, ?_, ?_, ?_⟩
    · unfold PairPort.linkByCarrier; decide +kernel
    · intro _; decide +kernel
    · intro h; exact absurd h (by decide +kernel)
    · intro _; exact ⟨rfl, rfl, rfl, fun _ => rfl⟩

/-- A takeover entry, a reset of the configuration, a DELTA frame that begins with a YIELD, and a step without a command whose record is
one; a health, a hold flag, peer fields, a grace timer and a yield-taken that move. -/
theorem witness_EpochAndConfigurationHeld :
    (∃ t, exec .forceActive (asking (request 11 [0]) (unitIn .standby .hello)) = .next t ∧ t.arb.epoch ≠ 0) ∧
    (∃ t, exec .softReset (asking (request 16 []) { taken with cfg := { taken.cfg with grace := 10 } }) = .next t ∧
      t.cfg.grace ≠ 10) ∧
    (∃ t, exec (.deltaReceived (Frame.delta 0 [.yieldMarker]).bytes) (unitIn .standby .up) = .next t ∧ t.arb.epoch = 1) ∧
    (let s : State := { midFrame with port := { midFrame.port with applying := [.yieldMarker] } }
    s.pending = [] ∧ ¬ s.finishesFrame none ∧ ∃ t, step s = .next t ∧ t.arb.epoch = 1 ∧ t.arb.yieldTaken = true) ∧
    (∃ t, exec .health (asking (request 10 [3]) active) = .next t ∧ t.arb.health = 3) ∧
    (∃ t, exec .holdStandby (asking (request 11 [1]) active) = .next t ∧ t.arb.hold = true) ∧
    (∃ t, exec (.beatReceived (Frame.beat ⟨.standby, 7, 8, true, false, false, .idle, 0⟩).bytes) active = .next t ∧
      t.arb.peer ≠ active.arb.peer ∧ ∀ c, ¬ active.finishesFrame c) ∧
    (let s : State := { taken with aging := ⟨99, 10510, 0, 0⟩ }
    ∃ t, exec .millisecond s = .next t ∧ s.role = .takeover ∧ t.arb.grace = 599) ∧
    (let s : State := { taken with arb := { taken.arb with yieldTaken := true } }
    ∃ t, exec .softReset (asking (request 16 []) s) = .next t ∧ t.arb.yieldTaken = false) :=
  ⟨⟨_, rfl, by decide +kernel⟩, ⟨_, rfl, by decide +kernel⟩, ⟨_, rfl, by decide +kernel⟩,
    ⟨rfl, fun ⟨_, _, h, _⟩ => (by cases h), _, rfl, by decide +kernel, by decide +kernel⟩, ⟨_, rfl, by decide +kernel⟩,
    ⟨_, rfl, by decide +kernel⟩, ⟨_, rfl, by decide +kernel, fun _ h => h.1 rfl⟩, ⟨_, rfl, rfl, by decide +kernel⟩,
    ⟨_, rfl, by decide +kernel⟩⟩

theorem witness_TableHasNoOtherWriter :
    (∃ t, exec .remove (asking (request 6 [16112, 0]) active) = .next t ∧ t.table ≠ active.table) ∧
    midFrame.pending = [] ∧ (∃ t, step midFrame = .next t ∧ t.table ≠ midFrame.table) ∧
    ∃ t, exec (.probeReturned (Frame.probe ⟨3, 1, List.replicate 32 0⟩).bytes) midFrame = .next t ∧ t.table ≠ midFrame.table :=
  ⟨⟨_, rfl, by decide +kernel⟩, rfl, ⟨_, rfl, by decide +kernel⟩, ⟨_, rfl, by decide +kernel⟩⟩

/-- The pin in a high bit of the line and in a low run, the release, and a START 16 ms into that run, whose first bit begins at once. -/
theorem witness_ResetsLeavePowerOnValues :
    let s (d : Driver) : State := { active with clock := 500000, driver := d }
    let high := s ⟨some .active, some 0, 450000, none⟩
    let low := s ⟨none, none, 0, some 100000⟩
    (after .hardReset active).resetLow = true ∧ high.driver.level = true ∧ low.driver.level = false ∧
    [high, low].map (fun s => (after (.resetRelease false) (after .hardReset s)).driver.lowSince) = [some 500000, some 100000] ∧
    [high, low].map (fun s => (after .start (asking (request 13 []) (after (.resetRelease false) (after .hardReset s)))).driver) =
      [⟨some .waiting, none, 500000, some 500000⟩, ⟨some .waiting, some 0, 500000, none⟩] := by decide +kernel

theorem witness_ResetHoldsThePart : ∃ t, exec .completionWindowRead (after .hardReset active) = .next t ∧
    (after .hardReset active).resetLow = true := ⟨_, rfl, by decide +kernel⟩

/-- A header, a last body word, and a request at a full queue. -/
theorem witness_RequestWindowTakesRequests : active.resetLow = false ∧
    (∀ k < 4, (0xFFFF : Word).extractLsb' (8 * k) 8 =
      if (3 : BitVec 4).getLsbD k then (0x1234FFFF : Word).extractLsb' (8 * k) 8 else 0) ∧
    active.req.assembling = none ∧
    ({ active.req with assembling := some ⟨0x0C200007, []⟩, queue := List.replicate 32 (request 14 []) } :
      RequestPort).queue.length = 32 ∧
    ((request 3 [0]).header.extractLsb' 21 5).toNat = 1 := by decide +kernel

theorem witness_CompletionWindowReadsHead :
    let s := { active with req := { active.req with completions := [⟨1, .ok, 7, [16112, 32]⟩], readPos := 2 } }
    s.resetLow = false ∧ s.req.readPos = 1 + 1 ∧ ([16112, 32] : List Word)[1]? = some 32 ∧ active.req.completions = [] := by
  decide +kernel

theorem witness_EventsLatchedEnabledAndRead : State.reset.resetLow = false := by decide +kernel

/-- A millisecond short of the tick, and one that makes it. -/
theorem witness_MillisecondsMakeTicks : active.resetLow = false ∧ active.aging.msCount + 1 < active.cfg.tickInterval ∧
    ({ active.aging with msCount := 99 } : Aging).msCount + 1 = active.cfg.tickInterval := by decide +kernel

/-- A record that is due at the walker's position, at the last slot that can be due, and one a tick short of it; a suppressed, a
queued and a passed-over visit. -/
def dueAt (deadline : Word) (owed : Bool) (queued : Nat) : State :=
  let s := holding { rec1 with deadline := deadline, marks := ⟨false, false, owed⟩ } 10510 (unitIn .active .up)
  { s with aging := ⟨0, 10510, 16112, 1⟩, dq := ⟨queueOf queued, false, 0⟩ }

theorem witness_WalkerVisits :
    let s := dueAt 10509 false 0
    (s.resetLow = false ∧ tableWf s.table = true ∧ 0 < s.aging.owed ∧ ((s.slot s.aging.position).live?).isSome = true ∧
      s.role = .active ∧ s.loose rec1 = false ∧ (0 : Int) < (s.now - 10509).toInt) ∧
    (s.now - 10510).toInt = 0 ∧ (dueAt 10510 true 768).dq.entries.length = 768 ∧ (dueAt 10510 true 767).up = true ∧
    (dueAt 10510 true 767).entryKind 16112 = none ∧ (dueAt 10510 true 767).dq.entries.length < 768 ∧
    ({ taken with aging := ⟨0, 10510, 0, 1⟩ } : State).loose rec1 = true ∧
    (({ taken with aging := ⟨0, 10510, 0, 1⟩ } : State).slot 0).live? = none := by decide +kernel

theorem witness_QuarantineServesItsHold :
    let s := { active with due := ⟨false, false, false, false, false, true⟩ }
    s.resetLow = false ∧ s.due.quarantine = true := by decide +kernel

theorem witness_TimersPutFrames :
    let s := { active with port := { active.port with heartbeat := some 1 }, due := ⟨true, false, false, false, false, false⟩ }
    let h := { unitIn .listen .hello with clock := 12500000 }
    (s.resetLow = false ∧ s.due.heartbeat = true ∧ s.up = true ∧ s.port.heartbeat = some 1 ∧ s.cfg.heartbeat ≤ 1) ∧
    (h.resetLow = false ∧ h.port.link = .hello ∧ h.role ≠ .boot ∧ h.hello.pacingSince + 250000 ≤ (h.atPhase 0).clock ∧
      h.hello.helloSince + 12500000 ≤ (h.atPhase 0).clock) := by decide +kernel

theorem witness_CarrierWithoutRelation :
    (unitIn .listen .down).resetLow = false ∧ (unitIn .listen .down).port.carrier = false ∧ (unitIn .listen .down).role ≠ .boot ∧
    (unitIn .listen .hello).port.carrier = true ∧ (unitIn .listen .hello).up = false ∧
    (unitIn .boot .loopback).port.carrier = true ∧ (unitIn .boot .loopback).up = false := by decide +kernel

theorem witness_RelationEnds :
    let s := { lossy with
      clock := 125000
      due := ⟨false, true, false, false, false, false⟩
      port := { lossy.port with silence := some 3, inFlight := [flying 40 [.sweepBegin] 6 (some 0)] } }
    s.resetLow = false ∧ tableWf s.table = true ∧ s.up = true ∧ s.port.applying = [] ∧ s.port.carrier = true ∧ s.due.silence = true ∧
    s.port.silence = some 3 ∧ s.cfg.beatsLost * s.cfg.heartbeat ≤ 3 ∧
    s.port.inFlight = flying 40 [.sweepBegin] 6 (some 0) :: [] ∧ 0 + 125000 ≤ (s.atPhase 0).clock ∧
    parseFrame (Frame.hello ⟨false, true, true, true, 1, 0, .identity ⟨1, 8, 7, .listen, 0⟩⟩).bytes =
      some (.hello ⟨false, true, true, true, 1, 0, .identity ⟨1, 8, 7, .listen, 0⟩⟩) := by decide +kernel

/-- What an end settles beside: a YIELDING unit of either letter on an ACTIVE line, a FAR test and an INTERNAL one, and frames that
wait behind one in transmission. -/
theorem witness_RelationEnds_settled :
    let s := { unitIn .yielding .up with
      monitor := { (unitIn .yielding .up).monitor with cls := .active }
      req := { RequestPort.initial with running := some ⟨7, true, 5, [0, 1], some 0, false⟩ }
      port := { (unitIn .yielding .up).port with tx :=
        { Transmitter.initial with sending := some (.ack 1), acks := [2], beat := some active.buildBeat, resend := [3] } } }
    s.resetLow = false ∧ tableWf s.table = true ∧ s.up = true ∧ s.port.carrier = true ∧ s.role = .yielding ∧
    s.roleAfterEnd = .active ∧ ({ s with letter := .b } : State).roleAfterEnd = .isolated ∧ s.port.tx.sending ≠ none ∧
    s.port.tx ≠ Transmitter.initial ∧ s.req.running.map (·.far) = some true ∧
    ((after .carrierLoss s).role, (after .carrierLoss s).req.running) = (.active, none) := by decide +kernel

/-- A unit that stands by with a relation UP, of this letter and line class, held or not. -/
def standing (letter : UnitLetter) (cls : LineClass) (hold : Bool) : State :=
  let s := unitIn .standby .up
  { s with letter := letter, monitor := { s.monitor with cls := cls }, arb := { s.arb with hold := hold } }

theorem witness_PeerLossDecision : ∀ letter : UnitLetter, (standing letter .active true).resetLow = false ∧
    (standing letter .active true).port.carrier = true ∧ (standing letter .active true).up = true ∧
    (standing letter .active true).port.applying = [] ∧
    (standing letter .active true).role = .standby ∧ (standing letter .waiting true).monitor.cls ≠ .active ∧
    (standing letter .waiting true).arb.hold = true ∧ (standing letter .silent false).monitor.cls = .silent ∧
    (standing letter .waiting false).monitor.cls ≠ .silent ∧ (standing letter .waiting false).arb.hold = false ∧
    (standing letter .waiting false).letter = letter := by intro letter; cases letter <;> decide +kernel

theorem witness_GraceEnds : (unitIn .takeover .hello).resetLow = false ∧ (unitIn .takeover .hello).role = .takeover ∧
    (unitIn .takeover .hello).arb.grace = 0 := by decide +kernel

/-- A unit whose listen timer, for this purpose, stands at the period at a tick. -/
def listened (role : Role) (purpose : ListenPurpose) : State :=
  let s := unitIn role .hello
  { s with arb := { s.arb with listen := some (purpose, 30) }, due := ⟨false, false, true, false, false, false⟩ }

theorem witness_ListenPeriodsEnd : ∀ p ∈ [ListenPurpose.first, .second], (listened .listen p).resetLow = false ∧
    (listened .listen p).role = .listen ∧ (listened .listen p).due.listen = true ∧ (listened .listen p).cfg.listenPeriod ≤ 30 ∧
    (listened .listen p).arb.listen = some (p, 30) := by decide +kernel

theorem witness_TakeoverEntered :
    (let s := listened .standby .stagger
    s.resetLow = false ∧ s.up = false ∧ s.role = .standby ∧ s.due.listen = true ∧ s.arb.listen = some (.stagger, 30) ∧
      s.cfg.listenPeriod ≤ 30 ∧ s.monitor.cls ≠ .active ∧ s.arb.hold = false) ∧
    ∀ s ∈ [unitIn .standby .hello, unitIn .isolated .refused, unitIn .joining .up, unitIn .boot .hello],
      (asking (request 11 [0]) s).canBegin (request 11 [0]) 11 1 ∧ (request 11 [0]).word 0 = 0 := by
  unfold State.canBegin; decide +kernel

/-- An ACTIVE unit whose yield may begin, the peer preferred for the whole health hold. -/
def yielder : State :=
  let s := unitIn .active .up
  { s with
    arb := { s.arb with health := 4, healthHold := some 50, peer := ⟨some .standby, 7, 8, 1, 0, .idle, false, false⟩ }
    due := ⟨false, false, false, true, false, false⟩ }

theorem witness_YieldBeginsAndTimesOut :
    (yielder.resetLow = false ∧ yielder.role = .active ∧ yielder.up = true ∧ yielder.arb.peer.role = some .standby ∧
      yielder.arb.peer.lagging = false ∧ yielder.arb.peer.hold = false ∧ yielder.sweep.state = .idle ∧ yielder.dirtyCount = 0) ∧
    (asking (request 11 [3]) yielder).canBegin (request 11 [3]) 11 1 ∧ (request 11 [3]).word 0 = 3 ∧
    (yielder.due.healthHold = true ∧ yielder.arb.healthHold = some 50 ∧ yielder.cfg.healthHold ≤ 50 ∧
      yielder.prefersPeer) ∧ active.arb.peer.role ≠ some .standby ∧
    (let s := unitIn .yielding .up
    let u := { s with arb := { s.arb with yieldTimer := some 20 }, due := ⟨false, false, false, false, true, false⟩ }
    u.role = .yielding ∧ u.due.yieldTimer = true ∧ u.arb.yieldTimer = some 20 ∧ u.cfg.yieldTimeout ≤ 20) := by
  unfold State.canBegin State.prefersPeer; decide +kernel

theorem witness_GoBackResends :
    let s := { lossy with clock := 125000 }
    s.resetLow = false ∧ s.up = true ∧
    s.port.inFlight = flying 15 [.delete 300 4 ⟨0, 17, 1, 2, 3, 4⟩] 1 (some 0) :: [flying 16 [.sweepBegin] 1 (some 5000)] ∧
    0 + 125000 ≤ (s.atPhase 0).clock ∧ s.port.tx = Transmitter.initial ∧
    ({ s.port.tx with sending := some (.ack 1) } : Transmitter).sending ≠ none := by decide +kernel

/-- A frame of the resends next, and the end of an outbound probe of the running test, of an earlier one, and of a returned probe. -/
theorem witness_TransmitterPrecedence :
    let s := { lossy with port := { lossy.port with tx :=
      { Transmitter.initial with sending := some (.ack 1), resend := [15], fresh := [16] } } }
    let probing (earlier : Bool) (direction : Nat) : State := { active with
      port := { active.port with tx := { Transmitter.initial with sending := some (.probe ⟨0, BitVec.ofNat 8 direction, probePattern 0⟩) } }
      req := { active.req with running := some ⟨7, true, 0, [], none, earlier⟩ } }
    s.resetLow = false ∧ s.port.tx.sending = some (.ack 1) ∧
    s.port.inFlight.find? (fun f => decide (f.seq = 15)) = some (flying 15 [.delete 300 4 ⟨0, 17, 1, 2, 3, 4⟩] 1 (some 0)) ∧
    (∀ earlier ∈ [false, true], ∀ direction ∈ [0, 1], (probing earlier direction).resetLow = false ∧
      (probing earlier direction).port.tx.sending = some (.probe ⟨0, BitVec.ofNat 8 direction, probePattern 0⟩)) ∧
    [(false, 0), (true, 0), (false, 1)].map (fun q =>
      (after (.transmitDone 0) (probing q.1 q.2)).req.running.map (fun u => (u.sent, u.earlier, u.since))) =
      [some (1, false, some 0), some (0, false, none), some (0, false, none)] := by
  decide +kernel

/-- A unit of this role with `n` entries queued, in slots 0 upward, each LIVE, the YIELD marker handed over or not. -/
def queued (role : Role) (n : Nat) (marker : Bool) : State :=
  let s := unitIn role .up
  { s with
    table := (List.range n).map (fun i => (i, ⟨1, .live { rec1 with
      key := ⟨0, 17, BitVec.ofNat 32 i, 1, 1, 1⟩, tcp := none, marks := ⟨true, false, false⟩ }⟩))
    dq := ⟨queueOf n, false, 0⟩
    port := { s.port with yieldMarker := marker } }

/-- Around 19 and 20 entries, in ACTIVE and in YIELDING, with and without a marker that waits; the marker alone; and where it goes. -/
theorem witness_FrameTakesQueueHead :
    (∀ role ∈ [Role.active, .yielding], ∀ n ∈ [1, 19, 20, 21], ∀ marker ∈ [false, true], let s := queued role n marker
      s.resetLow = false ∧ tableWf s.table = true ∧ s.up = true ∧ s.port.inFlight.length < 8 ∧ s.sweep.state ≠ .sweeping ∧
      s.port.sweepBegin = false ∧ s.port.sweepEnd = false ∧ s.dq.entries ≠ [] ∧ s.port.yieldMarker = marker ∧
      s.arb.yieldHanded = false ∧ ∀ e ∈ s.dq.entries, (s.entryDelta e).isSome = true) ∧
    (queued .yielding 0 true).dq.entries = [] ∧ (queued .yielding 0 true).port.yieldMarker = true ∧
    [(19, true), (20, true), (19, false), (20, false), (21, false)].map (fun q =>
      let t := after .frameBuild (queued .yielding q.1 q.2)
      (t.port.inFlight.map (fun f => (f.records.length, decide (f.records.getLast? = some .yieldMarker))), t.port.yieldMarker)) =
      [([(20, true)], false), ([(20, true)], false), ([(20, true)], false), ([(20, false)], true), ([(20, false)], false)] := by
  decide +kernel

/-- A unit whose sweep stands at this cursor, with a LIVE slot behind it and one ahead queued, a DOOMED slot queued, a dirty DOOMED slot,
and the markers that wait. -/
def passing (c : Nat) (sweepBegin sweepEnd : Bool) : State :=
  let doomed (n : Nat) (m : Marks) : SlotBody := .doomed { rec1 with key := ⟨1, 17, BitVec.ofNat 32 n, 1, 1, 1⟩, tcp := none, marks := m }
  { sweeping with
    table := sweeping.table ++ [(301, ⟨8, doomed 301 ⟨true, false, false⟩⟩), (302, ⟨9, doomed 302 ⟨false, true, false⟩⟩)]
    dq := ⟨[⟨40, .change⟩, ⟨300, .change⟩, ⟨301, .delete⟩], false, 0⟩
    sweep := ⟨.sweeping, c, 0⟩
    port := { sweeping.port with sweepBegin := sweepBegin, sweepEnd := sweepEnd } }

/-- The cursor at slot 0, at, behind and ahead of the queued slots, with its last 256 slots to scan, and at 16,896 with the SWEEP_END
still to be placed. -/
theorem witness_SweepPassesFreeSlots :
    (∀ q ∈ [(0, true, false), (256, false, false), (300, false, false), (301, false, false), (16640, false, false),
        (16896, false, true)],
      let s := passing q.1 q.2.1 q.2.2
      s.resetLow = false ∧ tableWf s.table = true ∧ s.up = true ∧ s.port.inFlight.length < 8 ∧ s.sweep.state = .sweeping ∧
      s.sweep.cursor = q.1 ∧ q.1 ≤ 16896 ∧ s.port.yieldMarker = false ∧ s.role ≠ .yielding ∧ (q.1 < 16896 ∨ s.port.sweepEnd = true) ∧
      (∀ e ∈ s.dq.entries, (s.entryDelta e).isSome = true) ∧ (s.dq.entries.map (·.slot)).Nodup) ∧
    [(0, true, false), (256, false, false), (301, false, false), (16896, false, true)].map (fun q =>
      let t := after .frameBuild (passing q.1 q.2.1 q.2.2)
      (t.port.inFlight.map (fun f => (f.records.length, f.endsSweep)), t.sweep.cursor,
        [(t.slot 301).body == .free, (t.slot 302).body == .free])) =
      [([(2, false)], 256, [true, false]), ([(2, false)], 512, [true, true]), ([(2, false)], 557, [true, true]),
        ([(4, true)], 16896, [false, false])] := by decide +kernel

/-- Twenty places full behind the cursor, with and without a SWEEP_BEGIN before them, and one short of it. -/
theorem witness_SweepPassesFreeSlots_full :
    ∀ q ∈ [(20, false), (19, true), (21, false), (19, false)], let u := queued .active q.1 false
      let s := { u with sweep := ⟨.sweeping, 256, 3⟩, port := { u.port with sweepBegin := q.2 } }
      tableWf s.table = true ∧ s.up = true ∧ s.port.inFlight.length < 8 ∧ s.port.sweepEnd = false ∧
      (s.dq.entries.map (·.slot)).Nodup ∧ (∀ e ∈ s.dq.entries, e.slot < 256 ∧ (s.entryDelta e).isSome = true) ∧
      ((after .frameBuild s).port.inFlight.map (fun f => f.records.length), (after .frameBuild s).sweep) =
        if q = (19, false) then ([19], ⟨.sweeping, 512, 256⟩) else ([20], ⟨.sweeping, 256, 0⟩) := by decide +kernel

theorem witness_CatchupRepairs :
    let s (n cursor : Nat) : State := { holding { rec1 with marks := ⟨false, true, false⟩ } 0 (unitIn .active .up) with
      dq := ⟨queueOf n, true, cursor⟩ }
    (s 0 16112).resetLow = false ∧ tableWf (s 0 16112).table = true ∧ (s 0 16112).up = true ∧ (s 0 16112).role = .active ∧
    (s 0 16112).dq.catchup = true ∧ (s 0 16112).dirtyAt 16112 = true ∧ (s 1024 16112).dq.entries.length = 1024 ∧
    (s 0 16112).entryKind 16112 = none ∧ (s 0 16111).dirtyAt 16111 = false ∧ (s 0 16895).dirtyAt 16895 = false ∧
    0 < (s 0 16895).dirtyCount ∧ active.dirtyCount = 0 := by decide +kernel

/-- A unit in HELLO in this role on its page `own`, having taken the peer's page `taken`, the peer's page 1 having said this. -/
def meetingAs (role : Role) (peer : Identity) (own taken : Nat) : State :=
  let s := unitIn role .hello
  { s with hello := { s.hello with
      ownPage := own, taken := taken, exchange := 1, ackExchange := 1, ackToggle := false
      sentIdentity := some s.identity, peerIdentity := some peer } }

/-- The same in LISTEN with an ACTIVE peer. -/
def meeting (own taken : Nat) : State := meetingAs .listen ⟨1, 8, 7, .active, 0⟩ own taken

/-- The peer's page with this acknowledgment and these contents. -/
def peerPage (comply ackToggle : Bool) (c : PageContent) : HelloPage := ⟨true, ackToggle, comply, true, 1, 1, c⟩

/-- Comply 0; the next page agreeing, not agreeing, acknowledging and not; a page above the next; and one met in BOOT, and on another
link. -/
theorem witness_HelloPagesTaken :
    (let page := (Frame.hello (peerPage true false (.geometry 16896 4096 0))).bytes
    (meetingAs .boot ⟨1, 8, 7, .active, 0⟩ 1 1).role = .boot ∧ (unitIn .listen .refused).port.link ≠ .hello ∧
    [meetingAs .boot ⟨1, 8, 7, .active, 0⟩ 1 1, meeting 1 1].map (fun s => (after (.helloPageReceived page) s).hello.taken) = [1, 2]) ∧
    (meeting 1 1).resetLow = false ∧ (meeting 1 1).port.link = .hello ∧ (meeting 1 1).role ≠ .boot ∧
    (∀ p ∈ [peerPage false false (.timers 100), peerPage true false (.geometry 16896 4096 0), peerPage true true (.geometry 16896 4096 1),
        peerPage true false (.timers 100)], parseFrame (Frame.hello p).bytes = some (.hello p)) ∧
    (PageContent.geometry 16896 4096 0).number = (meeting 1 1).hello.taken + 1 ∧
    (meeting 1 1).pageAgrees (.geometry 16896 4096 0) ∧ ¬ (meeting 1 1).pageAgrees (.geometry 16896 4096 1) ∧
    ((peerPage true false (.geometry 16896 4096 0)).ackToggle = (meeting 1 1).hello.toggle ∧ (1 : Byte) = (meeting 1 1).hello.exchange ∧
      (meeting 1 1).hello.ownPage ≤ (PageContent.geometry 16896 4096 0).number) ∧
    (peerPage true true (.geometry 16896 4096 0)).ackToggle ≠ (meeting 1 1).hello.toggle ∧
    (meeting 1 1).hello.taken + 1 < (PageContent.timers 100).number := by
  refine ⟨by decide +kernel, rfl, rfl, by decide, by decide +kernel, rfl, ⟨rfl, rfl, rfl⟩, fun h => absurd h.2.2 (by decide +kernel),
    ?_, ?_, ?_⟩ <;> decide +kernel

/-- A page repeated, page 1 and another, that acknowledges this side's page or does not; a page 2 below the taken page 3; and a page 1
below it, agreeing or not, that acknowledges the page 1 sent by the restart or does not. -/
theorem witness_HelloPagesTaken_repeats :
    let one (letter exchange : Byte) (ackToggle : Bool) : HelloPage :=
      ⟨true, ackToggle, true, true, 3, exchange, .identity ⟨letter, 8, 7, .listen, 0⟩⟩
    (∀ p ∈ [one 1 1 false, one 1 1 true, one 1 2 false, one 0 2 false, peerPage true true (.geometry 16896 4096 0)],
      parseFrame (Frame.hello p).bytes = some (.hello p) ∧ p.comply = true) ∧
    (meeting 1 1).hello.taken = (one 1 1 false).content.number ∧ (meeting 2 2).hello.taken = (PageContent.geometry 16896 4096 0).number ∧
    ((one 1 1 false).ackToggle = (meeting 1 1).hello.toggle ∧ (one 1 1 false).ackExchange = (meeting 1 1).hello.exchange ∧
      (meeting 1 1).hello.ownPage ≤ 1) ∧ (one 1 1 true).ackToggle ≠ (meeting 1 1).hello.toggle ∧
    (PageContent.geometry 16896 4096 0).number < (meeting 3 3).hello.taken ∧ 1 < (PageContent.geometry 16896 4096 0).number ∧
    1 < (meeting 3 3).hello.taken ∧ (one 1 2 false).ackExchange = (meeting 3 3).hello.exchange + 1 ∧
    (one 1 1 false).ackExchange ≠ (meeting 3 3).hello.exchange + 1 ∧
    (meeting 3 3).pageAgrees (one 1 2 false).content ∧ ¬ (meeting 3 3).pageAgrees (one 0 2 false).content ∧
    [(one 1 1 false, 1), (one 1 1 true, 1), (one 1 2 false, 3), (one 1 1 true, 3),
        (peerPage true true (.geometry 16896 4096 0), 3)].map (fun q =>
      let h := (after (.helloPageReceived (Frame.hello q.1).bytes) (meeting q.2 q.2)).hello
      (h.ownPage, h.taken, h.exchange, h.ackExchange)) =
      [(2, 1, 1, 3), (1, 1, 1, 3), (2, 1, 2, 3), (1, 1, 2, 3), (1, 0, 2, 1)] := by
  refine ⟨by decide +kernel, rfl, rfl, ⟨rfl, rfl, by decide⟩, by decide, by decide, by decide, by decide, rfl, by decide,
    by unfold State.pageAgrees; decide +kernel, fun h => h rfl, by decide +kernel⟩

/-- The exchange about to complete on page 4 taken and on page 4 repeated, in every pairing of sides, with equal and unequal live counts
and with standing on either side. -/
theorem witness_RelationStarts :
    let p := peerPage true false (.timers 100)
    let i (role : Role) (priority live : Nat) : Identity := ⟨1, BitVec.ofNat 8 priority, 7, role, BitVec.ofNat 16 live⟩
    parseFrame (Frame.hello p).bytes = some (.hello p) ∧ p.comply = true ∧ (100 : BitVec 16).toNat = (meeting 4 3).cfg.tickInterval ∧
    (∀ q ∈ [(Role.listen, Role.active), (.active, .listen), (.standby, .joining), (.active, .takeover)], ∀ taken ∈ [3, 4],
      ∀ live ∈ [0, 5], ∀ priority ∈ [8, 9],
      let s := meetingAs q.1 (i q.2 priority live) 4 taken
      s.resetLow = false ∧ s.port.link = .hello ∧ s.hello.taken = taken ∧ s.hello.ownPage = 4 ∧ p.ackToggle = s.hello.toggle ∧
      p.ackExchange = s.hello.exchange ∧ s.hello.sentIdentity = some ⟨0, 8, 7, q.1, 0⟩ ∧ s.role = q.1 ∧ s.role ≠ .boot ∧
      s.hello.peerIdentity = some (i q.2 priority live) ∧ tableWf s.table = true) ∧
    (let s := holding rec1 0 (meetingAs .standby (i .joining 8 0) 4 3)
    s.identity.live = 1 ∧ (0 : BitVec 16).toNat < s.identity.live.toNat) ∧
    ranksAbove 7 8 0 7 8 1 ∧ ¬ ranksAbove 7 8 0 7 9 1 := by
  refine ⟨by decide +kernel, rfl, rfl, by decide +kernel, by decide +kernel, ?_, ?_⟩ <;> unfold ranksAbove <;> decide +kernel

/-- The outcomes: the loser of a split, its table and queue, the winner, and the one that takes over, with a page that says more follow
and one that says none. -/
theorem witness_RelationStarts_outcomes :
    let p (more : Bool) : HelloPage := { peerPage true false (.timers 100) with more := more }
    let i (role : Role) (priority : Nat) : Identity := ⟨1, BitVec.ofNat 8 priority, 7, role, 0⟩
    let s (role peer : Role) (priority : Nat) : State := holding rec1 10510 (meetingAs role (i peer priority) 4 3)
    (∀ more : Bool, parseFrame (Frame.hello (p more)).bytes = some (.hello (p more))) ∧ tableWf (s .active .active 9).table = true ∧
    [s .active .active 9, s .active .active 7, s .standby .joining 7, s .standby .active 7].map (fun s =>
      let t := after (.helloPageReceived (Frame.hello (p true)).bytes) s
      (t.role, t.table.map (fun e => e.2.live?.isSome), t.arb.grace, t.sweep.state, t.latched .splitResolved)) =
      [(.joining, [true], 0, .idle, true), (.active, [true], 0, .sweeping, true), (.takeover, [true], 600, .sweeping, false),
        (.joining, [true], 0, .idle, false)] ∧
    [true, false].map (fun more => (after (.helloPageReceived (Frame.hello (p more)).bytes) (s .active .active 7)).port.tx.sending.isSome) =
      [true, true] ∧
    [true, false].map (fun more => match (after (.helloPageReceived (Frame.hello (p more)).bytes) (s .active .active 7)).port.tx.sending with
      | some (.hello _) => true
      | _ => false) = [true, false] := by
  refine ⟨fun more => by cases more <;> decide +kernel, by decide +kernel, by decide +kernel, by decide +kernel, by decide +kernel⟩

theorem witness_BeatReplacesPeerView :
    let b : Beat := ⟨.standby, 7, 8, true, false, false, .idle, 0⟩
    active.resetLow = false ∧ active.up = true ∧ active.port.applying = [] ∧ active.role = .active ∧ parseFrame (Frame.beat b).bytes = some (.beat b) := by
  decide +kernel

/-- For each clause, this unit's role and the peer's, the last ones quiet: an ACTIVE peer at a STANDBY and at a JOINING unit, and
the normal end of a yield on the taker's side. -/
theorem witness_BeatSettlesSplits :
    (∀ q ∈ [(Role.active, Role.takeover), (.takeover, .yielding), (.joining, .standby), (.yielding, .active), (.yielding, .yielding),
        (.standby, .active), (.joining, .active)],
      ∀ priority ∈ [7, 8, 9],
      let b : Beat := ⟨q.2, 7, priority, true, false, false, .idle, 0⟩
      (unitIn q.1 .up).resetLow = false ∧ tableWf (unitIn q.1 .up).table = true ∧ (unitIn q.1 .up).up = true ∧
      (unitIn q.1 .up).letter = .a ∧ (unitIn q.1 .up).arb.yieldTaken = false ∧ (unitIn q.1 .up).port.applying = [] ∧
      parseFrame (Frame.beat b).bytes = some (.beat b)) ∧
    (let b : Beat := ⟨.yielding, 7, 8, true, false, false, .idle, 0⟩
    let s (taken : Bool) : State := { unitIn .takeover .up with arb := { (unitIn .takeover .up).arb with yieldTaken := taken } }
    [false, true].map (fun taken =>
      let t := after (.beatReceived (Frame.beat b).bytes) (s taken)
      (t.role, t.sweep.state, t.latched .splitResolved)) =
      [(.takeover, .sweeping, true), (.takeover, .idle, false)]) ∧
    ranksAbove 7 8 0 7 7 1 ∧ ranksAbove 7 8 0 7 8 1 ∧ ¬ ranksAbove 7 8 0 7 9 1 := by
  unfold ranksAbove; decide +kernel

/-- A frame out of sequence, a full record for a FREE slot and for a LIVE one at a later version, and a DELETE at the record's own
version. -/
theorem witness_DeltaFramesApplied :
    let s := holding rec1 0 (unitIn .standby .up)
    let d (slot : BitVec 16) : FullDelta := ⟨.create, slot, 32, key1, 3, false, 5, 6, some ⟨0, 40000⟩, some tcp1⟩
    s.resetLow = false ∧ tableWf s.table = true ∧ s.up = true ∧ s.port.applying = [] ∧ s.port.expected = 0 ∧ (1 : Byte) ≠ s.port.expected ∧
    parseFrame (Frame.delta 0 [.full (d 16113)]).bytes = some (.delta 0 [.full (d 16113)]) ∧ (s.slot 16113).body = .free ∧
    0 < ((32 : Word) - (s.slot 16112).version).toInt ∧ s.pool.serves ⟨0, 40000⟩ = true ∧
    parseFrame (Frame.delta 0 [.delete 16112 31 key1]).bytes = some (.delta 0 [.delete 16112 31 key1]) ∧
    (s.slot 16112).live? = some rec1 ∧ 0 ≤ ((31 : Word) - (s.slot 16112).version).toInt := by decide +kernel

/-- d of 1, and d above the number in flight; the frame retired ends a sweep or does not. -/
theorem witness_AckRetiresFrames :
    let ends : InFlight := ⟨15, [.sweepEnd], 1, some 0, true⟩
    lossy.resetLow = false ∧ tableWf lossy.table = true ∧ lossy.up = true ∧ lossy.port.applying = [] ∧
    parseFrame (Frame.ack 16).bytes = some (.ack 16) ∧ ((16 : Byte) - 15).toNat ≤ lossy.port.inFlight.length ∧
    ¬ ((18 : Byte) - 15).toNat ≤ lossy.port.inFlight.length ∧ (lossy.slot 300).doomed? ≠ none ∧
    Delta.delete 300 (lossy.slot 300).version ⟨0, 17, 1, 2, 3, 4⟩ ∈ (lossy.port.inFlight.take 1).flatMap (·.records) ∧
    (∀ f ∈ lossy.port.inFlight.take 1, f.endsSweep = false) ∧
    (∃ f ∈ ({ lossy.port with inFlight := [ends] } : PairPort).inFlight.take 1, f.endsSweep = true) := by decide +kernel

/-- A stale and a duplicate record, a DELETE for a FREE slot and an older one, the first index that is no slot, and on the active side a
FILL that would be taken; each changes nothing. -/
theorem witness_DeltaFramesApplied_ignored :
    let s (role : Role) : State := holding rec1 0 (unitIn role .up)
    let d (kind : FullKind) (slot : BitVec 16) (v : Word) : FullDelta := ⟨kind, slot, v, key1, 3, false, 5, 6, none, some tcp1⟩
    (∀ x ∈ [Delta.full (d .create 16112 31), .full (d .create 16112 30), .full (d .create 16896 32), .delete 16113 31 key1,
        .delete 16112 30 key1, .delete 16896 32 key1],
      parseFrame (Frame.delta 0 [x]).bytes = some (.delta 0 [x]) ∧
      (after (.deltaReceived (Frame.delta 0 [x]).bytes) (s .standby)).table = (s .standby).table) ∧
    (∀ role ∈ [Role.active, .takeover, .yielding], (s role).port.expected = 0 ∧ (s role).up = true ∧ tableWf (s role).table = true ∧
      (after (.deltaReceived (Frame.delta 0 [.full (d .fill 16112 32)]).bytes) (s role)).table = (s role).table) := by
  decide +kernel

/-- The markers: SWEEP_BEGIN at a unit that sweeps and stands higher or lower, and at one that does not sweep; SWEEP_END at a JOINING
and at a STANDBY unit; YIELD at a STANDBY unit, held or not. -/
theorem witness_DeltaFramesApplied_markers :
    let s (role : Role) (sweep : SweepState) (priority : Nat) (hold : Bool) : State := { holding rec1 0 (unitIn role .up) with
      sweep := ⟨sweep, 0, 0⟩
      arb := { (unitIn role .up).arb with peer := ⟨some .active, 7, priority, 1, 0, .idle, false, false⟩, hold := hold } }
    (∀ m ∈ [Delta.sweepBegin, .sweepEnd, .yieldMarker], parseFrame (Frame.delta 0 [m]).bytes = some (.delta 0 [m])) ∧
    (∀ role ∈ [Role.active, .joining, .standby], (s role .sweeping 8 false).resetLow = false ∧
      tableWf (s role .sweeping 8 false).table = true ∧ (s role .sweeping 8 false).up = true ∧
      (s role .sweeping 8 false).port.expected = 0 ∧ (s role .sweeping 8 false).letter = .a ∧
      (s role .sweeping 8 false).arb.peer.letter = 1) ∧
    (ranksAbove 7 8 0 7 8 1 ∧ ¬ ranksAbove 7 8 0 7 9 1) ∧
    [(Role.active, SweepState.sweeping, 8, false, Delta.sweepBegin), (.active, .sweeping, 9, false, .sweepBegin),
        (.active, .idle, 8, false, .sweepBegin), (.standby, .idle, 8, false, .sweepBegin), (.joining, .idle, 8, false, .sweepEnd),
        (.standby, .idle, 8, false, .sweepEnd), (.standby, .idle, 8, false, .yieldMarker), (.standby, .idle, 8, true, .yieldMarker)].map
      (fun q =>
        let t := after (.deltaReceived (Frame.delta 0 [q.2.2.2.2]).bytes) (s q.1 q.2.1 q.2.2.1 q.2.2.2.1)
        (t.role, t.latched .splitResolved, t.table.map (fun e => e.2.live?.isSome))) =
      [(.active, true, [true]), (.joining, true, [false]), (.joining, true, [false]), (.joining, false, [false]),
        (.standby, false, [true]), (.standby, false, [true]), (.takeover, false, [true]), (.standby, false, [true])] := by
  refine ⟨by decide +kernel, by decide +kernel, ?_, by decide +kernel⟩
  unfold ranksAbove; decide +kernel

theorem witness_FrameRejectedIsCounted : active.resetLow = false ∧ active.port.link ≠ .loopback ∧ parseFrame [2, 4, 0, 0] = none ∧
    (unitIn .boot .loopback).port.link = .loopback ∧ (2048 : BitVec 16) ≠ 34998 := by decide +kernel

/-- In BOOT and with a relation UP, the transmitter idle, sending an outbound probe of an earlier test, or sending another frame. -/
theorem witness_LoopTestsBegin :
    let s (u : State) (f : Option Frame) : State := { u with
      port := { u.port with tx := { Transmitter.initial with sending := f } } }
    let probe : Frame := .probe ⟨63, 0, probePattern 63⟩
    (∀ u ∈ [State.reset, active], ∀ f ∈ [none, some probe, some (.ack 1)], ∀ mode ∈ [0, 1],
      (asking (request 8 [BitVec.ofNat 32 mode]) (s u f)).canBegin (request 8 [BitVec.ofNat 32 mode]) 8 1 ∧
      (request 8 [BitVec.ofNat 32 mode]).word 0 = BitVec.ofNat 32 mode) ∧
    State.reset.role = .boot ∧ active.role ≠ .boot ∧ active.up = true ∧ State.reset.up = false ∧
    [none, some probe, some (.ack 1)].map (fun f =>
      let t := after .loopTestFar (asking (request 8 [1]) (s active f))
      (t.port.tx.outbound.length, t.req.running.map (·.earlier))) = [(63, some false), (64, some true), (64, some false)] := by
  refine ⟨?_, rfl, by decide, rfl, rfl, by decide +kernel⟩
  unfold State.canBegin
  decide +kernel

/-- A test that has counted two probes and one that has counted 63, and the last number or one that is none; and what a count leaves. -/
theorem witness_ProbesReturnedAndCounted :
    let u (counted : List Nat) : LoopTest := ⟨7, true, 64, counted, some 0, false⟩
    let s (counted : List Nat) : State := { active with clock := 2500000, req := { active.req with running := some (u counted) } }
    let p (number dir : Byte) : Probe := ⟨number, dir, (List.range 32).map (fun j => BitVec.ofNat 8 (number.toNat * 4 + j))⟩
    (∀ counted ∈ [[0, 1], List.range 63, List.range 62 ++ [63]], (s counted).resetLow = false ∧ (s counted).up = true ∧
      (s counted).req.running = some (u counted) ∧ (u counted).counted.length < 64 ∧ (s counted).port.applying = []) ∧
    (∀ q ∈ [(0, 0), (63, 0), (64, 0), (0, 1), (63, 1), (64, 1)],
      parseFrame (Frame.probe (p (BitVec.ofNat 8 q.1) (BitVec.ofNat 8 q.2))).bytes =
        some (.probe (p (BitVec.ofNat 8 q.1) (BitVec.ofNat 8 q.2)))) ∧
    63 ∉ List.range 63 ∧ (List.range 63).length = 63 ∧ 63 ∈ List.range 62 ++ [63] ∧
    (u []).since = some 0 ∧ 0 + 2500000 ≤ ((s []).atPhase 0).clock ∧
    answer (after (.probeReturned (Frame.probe (p 63 1)).bytes) (s (List.range 63))) = some (.ok, [64, 64]) ∧
    [([0, 1], (63 : Byte)), ([0, 1], 64), ([0, 1], 1), (List.range 62 ++ [63], 63)].map (fun q =>
      (after (.probeReturned (Frame.probe (p q.2 1)).bytes) (s q.1)).req.running.map (fun u => u.counted.length)) =
      [some 3, some 2, some 2, some 63] := by decide +kernel

/-- A matching repetition at 46 ms, one at 50 ms, a cut one, the closure, the end of a period, and the silence limit. -/
theorem witness_LineMonitorJudges :
    let s (clock : Nat) (a : Machine.Alignment) : State := { unitIn .active .up with
      clock := clock, monitor := ⟨.active, a, LinePattern.standby.bits, .standby, 1, 2, true, some 0⟩ }
    (s 0 (.aligned 0)).resetLow = false ∧ (s 0 (.aligned 0)).up = true ∧ (s 0 (.aligned 0)).monitor.alignment = .aligned 0 ∧
    (s 0 (.aligned 0)).monitor.samples = LinePattern.standby.bits ∧ 1150000 ≤ ((s 1150000 (.aligned 0)).atPhase 0).clock - 0 ∧
    ((s 1250000 (.aligned 0)).atPhase 0).clock - 0 ≤ 1250000 ∧ 1250000 < ((s 1250001 (.aligned 0)).atPhase 0).clock - 0 ∧
    ((s 1149999 (.aligned 0)).atPhase 0).clock - 0 < 1150000 ∧ 0 + 1250000 ≤ ((s 1250000 (.aligned 0)).atPhase 0).clock ∧
    0 + 1200000 ≤ ((s 1200000 (.unaligned 0)).atPhase 0).clock ∧ 0 + 3000000 ≤ ((s 3000000 (.unaligned 0)).atPhase 0).clock ∧
    State.reset.monitor.edgeSeen = false ∧ (s 0 (.aligned 0)).monitor.lastRise = some 0 := by decide +kernel

/-- Without a relation: a repetition that makes the class ACTIVE, a third unmatched one that makes it GARBLED, a silence that makes it
SILENT, and an edge that aligns; by role, letter and hold flag, what the unit does. -/
theorem witness_LineMonitorJudges_unrelated :
    let s (role : Role) (letter : UnitLetter) (hold : Bool) (clock : Nat) (m : Monitor) : State :=
      let u := unitIn role .hello
      { u with letter := letter, clock := clock, monitor := m, arb := { u.arb with hold := hold } }
    let matched : Monitor := ⟨.waiting, .aligned 0, LinePattern.active.bits, .active, 1, 0, false, some 0⟩
    let missed : Monitor := ⟨.waiting, .aligned 0, [true], .active, 1, 2, false, some 0⟩
    let unaligned : Monitor := ⟨.standby, .unaligned 0, [], .active, 1, 1, true, some 0⟩
    matched.samples = LinePattern.active.bits ∧ (∀ p : LinePattern, missed.samples ≠ p.bits) ∧
    (s .standby .b false 1200000 matched).resetLow = false ∧ (s .standby .b false 1200000 matched).up = false ∧
    [(Role.active, UnitLetter.a), (.active, .b), (.standby, .a), (.listen, .b)].map (fun q =>
      (after (.lineRepetitionJudged 0 400000) (s q.1 q.2 false 1200000 matched)).role) = [.active, .isolated, .isolated, .listen] ∧
    [(UnitLetter.a, false), (.b, false), (.a, true)].map (fun q =>
      let t := after (.lineRepetitionJudged 0 400000) (s .standby q.1 q.2 1200000 missed)
      (t.monitor.cls, t.role, t.arb.listen.isSome)) =
      [(.garbled, .takeover, false), (.garbled, .standby, true), (.garbled, .standby, false)] ∧
    [(UnitLetter.b, false), (.b, true)].map (fun q =>
      let t := after (.lineSilenceTimeout 0) (s .isolated q.1 q.2 3000000 missed)
      (t.monitor.cls, t.role)) = [(.silent, .takeover), (.silent, .isolated)] ∧
    (after (.lineRepetitionJudged 0 400000) (s .active .a false 700000 unaligned)).monitor =
      ⟨.standby, .aligned 700000, [], .active, 1, 1, false, some 700000⟩ := by
  refine ⟨rfl, fun p => by cases p <;> decide, rfl, rfl, by decide +kernel, by decide +kernel, by decide +kernel, by decide +kernel⟩

theorem witness_LineEdgesSamplesAndBits :
    let s (clock : Nat) (d : Driver) : State := { unitIn .active .up with
      clock := clock, driver := d, monitor := { Monitor.initial 0 with alignment := .aligned 0 } }
    let d : Driver := ⟨some .active, some 11, 0, some 0⟩
    let e : Driver := ⟨some .active, none, 0, some 0⟩
    (s 50000 d).resetLow = false ∧ (s 50000 d).monitor.alignment = .aligned 0 ∧ (s 50000 d).monitor.samples.length < 8 ∧
    ((s 50000 d).atPhase 0).clock = 0 + 50000 + 100000 * (s 50000 d).monitor.samples.length ∧
    (s 100000 d).driver.pattern = some .active ∧ (s 100000 d).driver.bit = some 11 ∧
    (s 100000 d).driver.bitSince + 100000 ≤ ((s 100000 d).atPhase 0).clock ∧ (s 400000 e).driver.bit = none ∧
    (s 400000 e).driver.lowSince = some 0 ∧ 0 + 400000 ≤ ((s 400000 e).atPhase 0).clock := by decide +kernel

/-- A pattern that changes in a high bit, in a low run begun by the old pattern's low bits, and 16 ms into one, at its last period. -/
theorem witness_LineEdgesSamplesAndBits_cut :
    let s (d : Driver) : State := { asking (request 11 [0]) (unitIn .standby .hello) with clock := 1000000, driver := d }
    let high : Driver := ⟨some .standby, some 0, 950000, none⟩
    let low (since : Nat) : Driver := ⟨some .standby, some 1, 950000, some since⟩
    (∀ d ∈ [high, low 600000, low 600001], ({ s d with driver := { d with pattern := (s d).role.pattern } } : State).driver = d ∧
      (after .forceActive (s d)).driver.pattern ≠ d.pattern) ∧
    high.level = true ∧ (low 600000).level = false ∧
    [high, low 600000, low 600001].map (fun d => (after .forceActive (s d)).driver) =
      [⟨some .active, none, 950000, some 1000000⟩, ⟨some .active, some 0, 1000000, none⟩,
        ⟨some .active, none, 950000, some 600001⟩] := by decide +kernel

/-- The pool of section 4.11, unit B, address 0. -/
theorem witness_AllocateFindsFirst : pool411.staticBlocks ≤ 64 ∧ 1024 + 64 * pool411.staticBlocks = 1280 ∧
    pool411.cursors[(0 : BitVec 2).toNat]'((0 : BitVec 2).isLt) = 65470 ∧ 1280 ≤ 65470 ∧ 65470 ≤ 65535 := by decide +kernel

/-- Another key, of UDP. -/
def udpOther : Key := ⟨0, 17, 1, 2, 3, 4⟩

/-- A table that lists one slot reads as blank everywhere else. -/
theorem slot_of_one (s : State) (n : Nat) (x : Slot) (h : s.table = [(n, x)]) (j : Nat) (hj : j ≠ n) : s.slot j = Slot.blank := by
  unfold State.slot
  rw [h]
  simp [tableGet, hj]

/-- The unit of most tests, with the worked record, holds no record of another key. -/
theorem absent_in_active (s : State) (k : Key) (h : s.table = active.table) (hk : k ≠ key1) : s.absent k := by
  intro j q hq e
  by_cases hj : j = 16112
  · subst hj
    have : s.slot 16112 = ⟨31, .live rec1⟩ := by unfold State.slot; rw [h]; rfl
    rw [this] at hq
    cases hq
    exact hk e.symm
  · rw [slot_of_one s 16112 ⟨31, .live rec1⟩ h j hj] at hq
    cases hq

theorem findable_in_active (s : State) (h : s.table = active.table) (hs : s.cfg.seed = 0) : s.findable key1 16112 rec1 := by
  have e : s.slot 16112 = ⟨31, .live rec1⟩ := by unfold State.slot; rw [h]; rfl
  refine ⟨by decide, by rw [e]; rfl, rfl, Or.inl (by rw [hs]; decide +kernel), ?_⟩
  intro j q hq _
  by_cases hj : j = 16112
  · exact hj
  · rw [slot_of_one s 16112 ⟨31, .live rec1⟩ h j hj] at hq
    cases hq

/-- A record taken for a slot beside the LIVE record of its key, and one that names that record's port; the port goes free where the
new record does not name it. -/
theorem witness_DeltaFramesApplied_superseded :
    let nat : NatPart := ⟨0, 40000⟩
    let old : Record := { rec1 with nat := some nat }
    let s : State := { unitIn .standby .up with
      table := [(16112, ⟨31, .live old⟩)], pool := { Pool.initial with bound := [nat] } }
    (s.slot 16112).live? = some old ∧ old.key = key1 ∧ 16112 / 4 = key1.bucket s.cfg.seed ∧ (s.slot 16113).body = .free ∧
    s.pool.serves nat = true ∧ nat ∈ s.pool.bound ∧ (∀ j q, (s.slot j).live? = some q → j = 16112) ∧
    [(key1, none), (udpOther, some nat), (udpOther, none)].map (fun q =>
      let d : FullDelta := ⟨.create, 16113, 4, q.1, 3, false, 5, 6, q.2, if q.1 = key1 then some tcp1 else none⟩
      let t := after (.deltaReceived (Frame.delta 0 [.full d]).bytes) s
      (t.table.map (fun e => (e.1, e.2.live?.isSome)), t.pool.bound)) =
      [([(16112, false), (16113, true)], []), ([(16112, false), (16113, true)], [nat]),
        ([(16112, true), (16113, true)], [nat])] := by
  refine ⟨rfl, rfl, by decide +kernel, rfl, by decide +kernel, by decide +kernel, ?_, by decide +kernel⟩
  intro j q hq
  by_contra hj
  rw [slot_of_one _ 16112 _ rfl j hj] at hq
  cases hq

/-- The first way of an untouched bucket is chosen. -/
theorem first_way_chosen (s : State) (b : Nat) (h : (s.slot (4 * b)).body = .free) : s.chosenFor b (4 * b) :=
  Or.inl ⟨0, by decide, rfl, h, fun v hv => absurd hv (by omega)⟩

/-- An INSERT of a UDP key with these flags, EXPLICIT port 1,200. -/
def insertUdp (flags : Word) : Request := request 1 [1001, 2, 3, 17, flags, 1200]

/-- The unit with such an INSERT waiting and a delta queue of `n` entries. -/
def inserting (flags : Word) (n : Nat) : State := asking (insertUdp flags) { active with dq := ⟨queueOf n, false, 0⟩ }

/-- The key such an INSERT normalises to, and the first way of its bucket. -/
def udpKey : Key := ⟨0, 17, 1001, 0, 2, 3⟩
def udpSlot : Nat := 4 * udpKey.bucket 0

/-- NAT NONE, ALLOCATE and EXPLICIT of a static port, by the six-word body. -/
theorem witness_InsertPlacesRecord : ∀ natOption ∈ [0, 1, 2], ∀ n ∈ [0, 1024],
    let r := insertUdp (BitVec.ofNat 32 (16 * natOption))
    (inserting (BitVec.ofNat 32 (16 * natOption)) n).canBegin r 1 6 ∧ r.insertOperands.key.normalise = udpKey ∧
    (r.insertOperands.tcp.isSome = true ↔ r.insertOperands.key.protocol = 6) ∧
    r.insertOperands.natOption = BitVec.ofNat 2 natOption ∧ r.insertOperands.nat = ⟨0, 1200⟩ := by unfold State.canBegin; decide +kernel

/-- The same, of the state: an empty and a full queue, the slot chosen and not queued, a port to allocate. -/
theorem witness_InsertPlacesRecord_state (flags : Word) (n : Nat) : (inserting flags n).role = .active ∧
    (inserting flags n).absent udpKey ∧ (inserting flags n).chosenFor (udpKey.bucket (inserting flags n).cfg.seed) udpSlot := by
  refine ⟨rfl, absent_in_active _ _ rfl (by decide +kernel), ?_⟩
  have h : (inserting flags n).cfg.seed = 0 := rfl
  rw [h]
  refine first_way_chosen _ _ ?_
  rw [slot_of_one (inserting flags n) 16112 ⟨31, .live rec1⟩ rfl _ (by decide +kernel)]
  rfl

theorem witness_InsertPlacesRecord_pool : tableWf (inserting 0 0).table = true ∧ (inserting 0 0).entryKind udpSlot = none ∧
    (inserting 0 1024).entryKind udpSlot = none ∧ (inserting 0 1024).dq.entries.length = 1024 ∧
    (inserting 0 0).pool.allocate .a 0 = some 1280 ∧ (inserting 0 0).cfg.addrCount = 1 ∧
    (inserting 0 0).pool.serves ⟨0, 1200⟩ = false := by decide +kernel

/-- An ALLOCATE that takes port 65,535, and where it leaves the cursor. -/
theorem witness_InsertPlacesRecord_cursor :
    let p := { Pool.initial with laneMode := .both, cursors := #v[65535, 1280, 1280, 1280] }
    let s := { inserting 16 0 with pool := p }
    s.canBegin (insertUdp 16) 1 6 ∧ p.allocate .a 0 = some 65535 ∧ (after .insert s).pool.cursors = #v[1280, 1280, 1280, 1280] := by
  unfold State.canBegin; decide +kernel

/-- The thirteen-word body, placed in a spill slot. -/
theorem witness_InsertPlacesRecord_spill :
    let s := asking insertKey1 crowded
    s.canBegin insertKey1 1 13 ∧ tableWf s.table = true ∧ insertKey1.insertOperands.tcp.isSome = true ∧
    insertKey1.insertOperands.key = key1 ∧ key1.normalise = key1 ∧ key1.bucket s.cfg.seed = 4028 ∧ s.chosenFor 4028 16386 ∧
    s.entryKind 16386 = none := by
  refine ⟨by unfold State.canBegin; decide +kernel, by decide +kernel, by decide +kernel, by decide +kernel, by decide +kernel,
    by decide +kernel, Or.inr ⟨by decide +kernel, by decide, by decide, by decide +kernel, ?_⟩, by decide +kernel⟩
  intro j hj hi
  obtain rfl | rfl : j = 16384 ∨ j = 16385 := by omega
  all_goals decide +kernel

/-- Each check of INSERT: the role, the four malformed forms, a key held. -/
theorem witness_InsertRefused :
    ((asking (insertUdp 0) (unitIn .standby .up)).canBegin (insertUdp 0) 1 6 ∧ (unitIn .standby .up).role ≠ .active ∧
      (unitIn .standby .up).role ≠ .takeover) ∧
    (asking insertKey1 active).canBegin insertKey1 1 13 ∧ active.role = .active ∧ tableWf active.table = true ∧
    (∀ r ∈ [request 1 (key1.words ++ [3, 0]), insertUdp 48, insertUdp 80, request 1 [1, 2, 3, 17, 32, 1023]],
      (asking r active).canBegin r 1 6 ∧ (¬ (r.insertOperands.tcp.isSome = true ↔ r.insertOperands.key.protocol = 6) ∨
        r.insertOperands.natOption = 3 ∨ (r.insertOperands.natOption ≠ 0 ∧ 1 ≤ r.insertOperands.nat.index.toNat) ∨
        (r.insertOperands.natOption = 2 ∧ r.insertOperands.nat.port.toNat < 1024))) ∧
    active.cfg.addrCount = 1 ∧ insertKey1.insertOperands.key.normalise = key1 ∧ insertKey1.insertOperands.natOption = 0 := by
  unfold State.canBegin; decide +kernel

theorem witness_InsertRefused_held : (asking insertKey1 active).findable key1 16112 rec1 := findable_in_active _ rfl rfl

/-- The four ways of bucket 4,028 and the 512 spill slots LIVE, with other keys than the worked one. -/
def crammedTable : Table := (List.range 516).map (fun n => (if n < 4 then 16112 + n else 16380 + n, ⟨1, .live { rec1 with
  key := ⟨1, 17, BitVec.ofNat 32 n, 1, 1, 1⟩, tcp := none, home := if n < 4 then none else some 4028 }⟩))

/-- A unit with this table. -/
def crammed : State := { active with table := crammedTable }

/-- A slot that a table without a FREE slot lists is not FREE. -/
theorem listed_not_free {t : Table} {i : Nat} (h : ∀ e ∈ t, e.2.body ≠ .free) (hi : i ∈ t.map (·.1)) : (tableGet t i).body ≠ .free := by
  induction t with
  | nil => cases hi
  | cons e rest ih =>
    obtain ⟨j, x⟩ := e
    simp only [tableGet]
    split
    · exact h _ (List.mem_cons_self ..)
    · exact ih (fun e he => h e (List.mem_cons_of_mem _ he)) (by simpa [*] using hi)

theorem crammed_wf : tableWf crammed.table = true := by
  rw [show crammed.table = crammedTable by simp only [crammed]]
  refine tableWf_iff.2 ⟨by decide +kernel, ?_⟩
  unfold crammedTable
  rw [List.pairwise_map]
  refine List.pairwise_lt_range.imp fun h => ?_
  dsimp only
  split <;> split <;> omega

/-- The bucket and the spill full: the worked key is held by no record, and no slot is chosen for it. -/
theorem witness_InsertRefused_full :
    (asking insertKey1 crammed).canBegin insertKey1 1 13 ∧ tableWf crammed.table = true ∧ crammed.role = .active ∧
    insertKey1.insertOperands.key.normalise.bucket crammed.cfg.seed = 4028 ∧ crammed.absent key1 ∧ ∀ i, ¬ crammed.chosenFor 4028 i := by
  refine ⟨by unfold State.canBegin; decide +kernel, crammed_wf, rfl, by decide +kernel, ?_, ?_⟩
  · intro j q hq e
    have h : ∀ e ∈ crammed.table, e.2.live?.all (fun q => decide (q.key ≠ key1)) = true := by decide +kernel
    have hb : crammed.slot j ≠ Slot.blank := fun hb => by rw [hb] at hq; cases hq
    have := h _ (tableGet_mem (t := crammed.table) (i := j) hb)
    have hs : (tableGet crammed.table j).live? = some q := hq
    simp [hs, e] at this
  · have held : ∀ n < 516, (crammed.slot (if n < 4 then 16112 + n else 16380 + n)).body ≠ .free := fun n hn =>
      listed_not_free (by decide +kernel) (by
        simp only [crammed, crammedTable, List.map_map]
        exact List.mem_map.2 ⟨n, List.mem_range.2 hn, rfl⟩)
    rintro i (⟨w, hw, rfl, h, _⟩ | ⟨_, h1, h2, h, _⟩)
    · exact held w (by omega) (by rwa [if_pos hw])
    · exact held (i - 16380) (by omega) (by rwa [if_neg (by omega), show 16380 + (i - 16380) = i by omega])

/-- A lane with no port left, and a port asked for that is quarantined (section 4.11). -/
theorem witness_InsertRefused_port :
    Pool.allocate { Pool.initial with staticBlocks := 1007, cursors := #v[65472, 65472, 65472, 65472] } .b 0 = none ∧
    (let r := request 1 [1, 2, 3, 17, 32, 65406]
    let s := asking r { active with pool := pool411 }
    r.insertOperands.natOption = 2 ∧ s.pool.serves r.insertOperands.nat = true ∧
      s.pool.condition r.insertOperands.nat ≠ .free) := by decide +kernel

/-- A key held, one not held, a FREE slot, a LIVE one, a DOOMED one, and the first index that is no slot. -/
theorem witness_LookupAndReadSlotReport :
    (asking (request 2 key1.words) active).canBegin (request 2 key1.words) 2 4 ∧ active.role ≠ .boot ∧ tableWf active.table = true ∧
    ((request 2 key1.words).key 0).normalise = key1 ∧ State.reset.role = .boot ∧
    (∀ r ∈ [request 3 [16112], request 3 [16895], request 3 [16896]], (asking r active).canBegin r 3 1) ∧
    (active.slot 16112).live? = some rec1 ∧ (active.slot 16895).body = .free ∧ (crowded.slot 16114).doomed? ≠ none := by
  unfold State.canBegin; decide +kernel

theorem witness_LookupAndReadSlotReport_keys : active.findable key1 16112 rec1 ∧ active.absent ⟨0, 17, 1, 2, 3, 4⟩ :=
  ⟨findable_in_active _ rfl rfl, absent_in_active _ _ rfl (by decide +kernel)⟩

/-- Each check of UPDATE and its success: the version not expected, nothing given, a NAT given, scales for a record without a TCP
part, and all four parts given; at the last slot and one beyond. -/
theorem witness_UpdateWritesGivenFields :
    (∀ r ∈ [0x33EF0, 0x3EF0, 0x203EF0, 0x83EF0, 0x1E3EF0, 0x241FF, 0x24200].map (fun w => request 4 [w, 30, 0, 0, 0, 0, 0, 0]),
      (asking r active).canBegin r 4 8) ∧
    tableWf active.table = true ∧ active.role = .active ∧ (active.slot 16112).version = 31 ∧
    (active.slot 16112).live? = some rec1 ∧ (active.slot 16895).live? = none := by
  unfold State.canBegin; decide +kernel

theorem witness_UpdateWritesGivenFields_operands :
    let o (w : Word) : UpdateOperands := (request 4 [w, 30, 0, 0, 0, 0, 0, 0]).updateOperands
    o 0x33EF0 = ⟨16112, some 30, some 0, none, none, none, false⟩ ∧ o 0x3EF0 = ⟨16112, none, none, none, none, none, false⟩ ∧
    o 0x203EF0 = ⟨16112, none, none, none, none, none, true⟩ ∧
    o 0x1E3EF0 = ⟨16112, none, some 0, some false, some (0, 0), some ⟨0, 0, 0, 0⟩, false⟩ ∧ (o 0x241FF).slot = 16895 ∧
    (o 0x24200).slot = 16896 := by decide +kernel

/-- A TOUCH a quantum after the deadline sent (450 ticks) and one tick short of it, with a queue one short of the watermark and at it,
the slot queued or not. -/
theorem witness_TouchKeepsAlive :
    let r := request 5 [0x13EF0, 1, 2, 3, 4, 5]
    let s (now : Word) (n : Nat) : State := { holding rec1 now active with dq := ⟨queueOf n, false, 0⟩ }
    (asking r (s 0 0)).canBegin r 5 6 ∧ tableWf (s 0 0).table = true ∧ r.touchOperands.slot = 16112 ∧
    r.touchOperands.snapshot ≠ none ∧ ((s 0 0).slot 16112).live? = some rec1 ∧ rec1.tcp ≠ none ∧ (s 0 0).role = .active ∧
    (s 0 0).up = true ∧ (s 0 0).cfg.timeouts[rec1.cls.toNat]'(rec1.cls.isLt) = 1800 ∧
    ((s 10940 767).now + BitVec.ofNat 32 1800 - rec1.deadlineSent).toInt = 450 ∧
    ((s 10939 767).now + BitVec.ofNat 32 1800 - rec1.deadlineSent).toInt = 449 ∧ (s 10940 767).dq.entries.length = 767 ∧
    (s 10940 768).dq.entries.length = 768 ∧ (s 10940 767).entryKind 16112 = none ∧
    ({ s 10940 0 with dq := ⟨[⟨16112, .create⟩], false, 0⟩ } : State).entryKind 16112 = some .create ∧
    (request 5 [0x4200, 0, 0, 0, 0, 0]).touchOperands.slot = 16896 := by
  unfold State.canBegin; decide +kernel

/-- The version expected, another, none expected; the last slot and one beyond. -/
theorem witness_RemoveEndsSession :
    (∀ r ∈ [request 6 [0x13EF0, 31], request 6 [0x13EF0, 30], request 6 [0x3EF0, 0], request 6 [0x41FF, 0], request 6 [0x4200, 0]],
      (asking r active).canBegin r 6 2) ∧ tableWf active.table = true ∧ active.role = .active ∧
    (request 6 [0x13EF0, 31]).removeOperands = ⟨16112, some 31⟩ ∧ (request 6 [0x3EF0, 0]).removeOperands = ⟨16112, none⟩ ∧
    (active.slot 16112).version = 31 ∧ (active.slot 16112).live? = some rec1 ∧
    (request 6 [0x41FF, 0]).removeOperands.slot = 16895 ∧ (request 6 [0x4200, 0]).removeOperands.slot = 16896 := by
  unfold State.canBegin; decide +kernel

/-- A CHECK by key, one way. -/
def checkByKey : Request := request 7 ([2] ++ key1.words ++ [60000, 1400, 0])

/-- By slot and by key, malformed, one beyond the slots, a slot that is not LIVE, and a key not held; loose in TAKEOVER and tight in
ACTIVE. -/
theorem witness_CheckJudgesSegment :
    (∀ r ∈ [checkRequest 1 60000 1400 0 0, checkByKey, checkRequest 8 0 0 0 0, checkRequest 3 0 0 0 0,
      request 7 [0x42000001, 0, 0, 0, 0, 0, 0, 0], request 7 [0x41FF0001, 0, 0, 0, 0, 0, 0, 0], request 7 [2, 0, 0, 0, 0, 0, 0, 0]],
      ∀ s ∈ [taken, active, { taken with arb := { taken.arb with role := .yielding } }], (asking r s).canBegin r 7 8) ∧
    tableWf taken.table = true ∧ (checkByKey.key 1).normalise = key1 ∧ (asking checkByKey taken).findable key1 16112 rec1 ∧
    (checkRequest 1 60000 1400 0 0).word 0 = 0x3EF00001 ∧ (taken.slot 16112).live? = some rec1 ∧ rec1.tcp = some tcp1 ∧
    (taken.role = .takeover ∧ rec1.baseEpoch ≠ taken.arb.epoch ∧ rec1.seenEpoch ≠ taken.arb.epoch) ∧
    (active.slot 16895).live? = none ∧ active.absent ((request 7 [2, 0, 0, 0, 0, 0, 0, 0]).key 1).normalise := by
  refine ⟨by unfold State.canBegin; decide +kernel, by decide +kernel, by decide +kernel, findable_in_active _ rfl rfl,
    by decide +kernel, by decide +kernel, rfl, by decide +kernel, rfl, absent_in_active _ _ rfl (by decide +kernel)⟩

/-- Case 1 of section 2.8, by slot and by key. -/
theorem witness_CheckMovesRecord :
    let r := checkRequest 1 60000 1400 0 0
    (asking r taken).canBegin r 7 8 ∧ (asking checkByKey taken).canBegin checkByKey 7 8 ∧ tableWf taken.table = true ∧
    taken.role = .takeover ∧ (r.word 0).getLsbD 0 = true ∧ (r.word 0).getLsbD 1 = false ∧ (r.word 0).toNat / 65536 = 16112 ∧
    (checkByKey.word 0).getLsbD 0 = false ∧ (checkByKey.word 0).getLsbD 1 = true ∧
    (asking checkByKey taken).findable key1 16112 rec1 ∧ (checkByKey.key 1).normalise = key1 ∧ (r.word 0).getLsbD 3 = false ∧
    (r.word 0).getLsbD 2 = false ∧ (taken.slot 16112).live? = some rec1 ∧ rec1.tcp = some tcp1 ∧
    (r.word 5 - tcp1.outDir.edge).toInt = 77296 ∧ r.word 5 + ((r.word 6).extractLsb' 0 16).zeroExtend 32 = 61400 ∧
    (61400 - tcp1.outDir.wend).toInt = 56400 ∧ (r.word 0).getLsbD 4 = false ∧
    looseSlack 65536 16777216 12000 (lagOf 10509 10500) = 120000 := by
  refine ⟨by unfold State.canBegin; decide +kernel, by unfold State.canBegin; decide +kernel, by decide +kernel, rfl,
    by decide +kernel, by decide +kernel, by decide +kernel, by decide +kernel, by decide +kernel, findable_in_active _ rfl rfl, ?_⟩
  decide +kernel

theorem witness_RetryPairLeavesRefused : ∀ q ∈ [(Role.boot, LinkState.refused), (.listen, .refused), (.active, .up)],
    (asking (request 9 []) (unitIn q.1 q.2)).canBegin (request 9 []) 9 0 := by unfold State.canBegin; decide +kernel

/-- A new level, the held one and one above 7; a hold set, cleared with a listen decision held back and with a takeover held back. -/
theorem witness_HealthAndHoldWritten :
    (∀ r ∈ [request 10 [3], request 10 [7], request 10 [8]], ∀ s ∈ [active, unitIn .listen .hello], (asking r s).canBegin r 10 1) ∧
    ([request 10 [3], request 10 [7], request 10 [8]].map (fun r => (r.word 0).toNat % 256)) = [3, 7, 8] ∧
    active.arb.health = 7 ∧
    (∀ hold : Bool, ∀ r ∈ [request 11 [1], request 11 [2]], let s := standing .a .silent hold
      (asking r s).canBegin r 11 1 ∧ s.arb.hold = hold) ∧ (request 11 [1]).word 0 = 1 ∧ (request 11 [2]).word 0 = 2 ∧
    (∀ letter : UnitLetter, ∀ cls ∈ [LineClass.active, .silent, .waiting],
      let s := unitIn .standby .hello
      let u := { s with letter := letter, monitor := { s.monitor with cls := cls }, arb := { s.arb with hold := true } }
      (asking (request 11 [2]) u).canBegin (request 11 [2]) 11 1 ∧ u.up = false ∧ u.role = .standby ∧ u.letter = letter) ∧
    (let s := unitIn .listen .hello
    let u := { s with arb := { s.arb with hold := true } }
    u.role = .listen ∧ u.arb.listen = none ∧ u.arb.hold = true) := by
  unfold State.canBegin
  refine ⟨by decide +kernel, by decide +kernel, rfl, ?_, by decide +kernel, by decide +kernel, ?_, rfl, rfl, rfl⟩
  · intro hold; cases hold <;> decide +kernel
  · intro letter; cases letter <;> decide +kernel

/-- A record of zeros: every field with a lower bound above 0 is clamped, and in LISTEN the tick interval, the address count and the
static blocks are not applied. The two lists are the words SET_CONFIG answers. -/
def zeros : Request := request 12 (List.replicate 28 0)

theorem witness_SetConfigWritesRecord :
    (∀ s ∈ [State.reset, unitIn .listen .hello], (asking zeros s).canBegin zeros 12 28) ∧ (∀ n < 28, zeros.word n = 0) ∧
    answer (after .setConfig (asking zeros (unitIn .listen .hello))) = some (.ok, [0x127F, 0x4001]) := by
  unfold State.canBegin; decide +kernel

theorem witness_StartLeavesBoot :
    let s := holding rec1 0 (unitIn .boot .hello)
    (asking (request 13 []) s).canBegin (request 13 []) 13 0 ∧ tableWf s.table = true ∧ s.role = .boot ∧
    (s.slot 16112).live? = some rec1 ∧ 16112 / 4 = rec1.key.bucket s.cfg.seed ∧
    (asking (request 13 []) active).canBegin (request 13 []) 13 0 ∧ active.role ≠ .boot := by
  unfold State.canBegin; decide +kernel

/-- A kind the part does not have, a known kind of a wrong length, a LOOP_TEST mode and a ROLE_REQUEST action unassigned. -/
theorem witness_StatusCountersAndUnknown :
    (asking (request 14 []) active).canBegin (request 14 []) 14 0 ∧ (asking (request 15 []) active).canBegin (request 15 []) 15 0 ∧
    (asking (request 0 []) active).canBegin (request 0 []) 0 0 ∧ (asking (request 6 [0]) active).canBegin (request 6 [0]) 6 1 ∧
    (asking (request 8 [2]) active).canBegin (request 8 [2]) 8 1 ∧ (request 8 [2]).word 0 = 2 ∧
    (asking (request 11 [4]) active).canBegin (request 11 [4]) 11 1 ∧ (request 11 [4]).word 0 = 4 := by
  unfold State.canBegin; decide +kernel

theorem witness_SoftResetKeepsSessions :
    (asking (request 16 []) active).canBegin (request 16 []) 16 0 ∧ tableWf active.table = true ∧ active.lineFollowsRole := by
  unfold State.canBegin State.lineFollowsRole; decide +kernel

/-- A frame of 20 records, one of each kind and the rest DELETEs, and a probe. -/
theorem witness_FramesSurviveTheWire :
    let full : FullDelta := ⟨.fill, 7, 32, key1, 3, true, 5, 6, none, some tcp1⟩
    let ds := [Delta.full full, .sweepBegin, .sweepEnd, .yieldMarker] ++ List.replicate 16 (Delta.delete 7 1 key1)
    ds.length = 20 ∧ full.tcp.isSome = true ∧ full.key.protocol = 6 ∧ (List.replicate 32 (0 : Byte)).length = 32 := by
  decide +kernel

/-! ### Witnesses over more than one slot -/

/-- A table that lists two slots reads as blank everywhere else. -/
theorem slot_of_two (s : State) (m n : Nat) (x y : Slot) (h : s.table = [(m, x), (n, y)]) (j : Nat) (hm : j ≠ m) (hn : j ≠ n) :
    s.slot j = Slot.blank := by
  unfold State.slot
  rw [h]
  simp [tableGet, hm, hn]

/-- The record of `kept` that is LIVE and queued, with the port it binds. -/
def keptRecord : Record := { rec1 with nat := some ⟨0, 40000⟩, marks := ⟨true, false, false⟩ }

/-- An ACTIVE unit with a LIVE slot queued, a DOOMED one dirty, a port bound and one quarantined, address 0 disarmed, and a REMOVE of the
LIVE record in front. -/
def kept : State :=
  let s := unitIn .active .up
  { s with
    pending := [.remove]
    table := [(301, ⟨8, .doomed { rec1 with key := udpOther, tcp := none, marks := ⟨false, true, false⟩ }⟩), (16112, ⟨31, .live keptRecord⟩)]
    dq := ⟨[⟨16112, .change⟩], false, 0⟩
    cfg := { s.cfg with poolLow := 32768 }
    pool := { s.pool with bound := [⟨0, 40000⟩], quarantine := [⟨⟨0, 41000⟩, 9⟩], armed := #v[false, true, true, true] }
    req := { s.req with queue := [request 6 [0x13EF0, 31]] } }

theorem kept_slot (j : Nat) (h : j ≠ 301) (g : j ≠ 16112) : kept.slot j = Slot.blank := slot_of_two kept _ _ _ _ rfl j h g

theorem kept_live (j : Nat) (r : Record) (h : (kept.slot j).live? = some r) : j = 16112 ∧ r = keptRecord := by
  by_cases h1 : j = 301
  · subst h1; cases h
  by_cases h2 : j = 16112
  · subst h2; exact ⟨rfl, (Option.some.inj h).symm⟩
  · rw [kept_slot j h1 h2] at h; cases h

/-- A full record in a frame names a slot of its key's bucket. -/
def keptDelta : FullDelta := ⟨.create, 16113, 32, key1, 3, false, 5, 6, none, some tcp1⟩

/-- For TableStaysCanonical: the keys, the places, and a DELTA frame whose record is addressed as R1 asks. -/
theorem witness_TableStaysCanonical : tableWf kept.table = true ∧ kept.relationSound ∧ kept.keysUnique ∧ kept.recordsPlaced ∧
    kept.wellAddressed [.full keptDelta] ∧ kept.wellAddressed kept.port.applying ∧ parseFrame (Frame.delta 0 [.full keptDelta]).bytes = some (.delta 0 [.full keptDelta]) ∧
    (∃ t, step kept = .next t) ∧
    (∃ t, step { kept with pending := [.deltaReceived (Frame.delta 0 [.full keptDelta]).bytes] } = .next t ∧ t.table ≠ kept.table) ∧
    ∃ t, step { kept with pending := [], port := { kept.port with applying := [.full keptDelta] } } = .next t ∧ t.table ≠ kept.table := by
  refine ⟨by decide +kernel, ⟨?_, ?_, ?_, ?_⟩, ?_, ?_, ?_, fun _ h => (by cases h), by decide +kernel, ⟨_, rfl⟩,
    ⟨_, rfl, by decide +kernel⟩, ⟨_, rfl, by decide +kernel⟩⟩
  · unfold PairPort.linkByCarrier; decide +kernel
  · intro h; exact absurd h (by decide +kernel)
  · intro _; decide +kernel
  · intro h; exact absurd h (by decide +kernel)
  · intro i j p q hp hq _
    rw [(kept_live i p hp).1, (kept_live j q hq).1]
  · intro _ i r h
    obtain ⟨rfl, rfl⟩ := kept_live i r h
    exact Or.inl (by decide +kernel)
  · intro d hd _
    have e : d = keptDelta := by simpa using hd
    subst e
    decide +kernel

/-- For DeltaQueueStaysBounded: one entry for the queued slot, the dirty one without. -/
theorem witness_DeltaQueueStaysBounded : kept.dq.bounded ∧ kept.entriesMarked ∧
    (after .remove kept).dq.entries ≠ kept.dq.entries := by
  refine ⟨by unfold DeltaQueue.bounded; decide +kernel, ⟨?_, ?_, by decide +kernel⟩, by decide +kernel⟩
  · intro i
    constructor
    · rintro ⟨e, he, rfl⟩
      have h : e = ⟨16112, .change⟩ := by simpa [kept] using he
      subst h
      exact ⟨keptRecord, Or.inl rfl, rfl⟩
    · rintro ⟨r, h | h, hm⟩
      · obtain ⟨rfl, -⟩ := kept_live i r h
        exact ⟨⟨16112, .change⟩, by decide, rfl⟩
      · by_cases h1 : i = 301
        · subst h1; cases h; cases hm
        by_cases h2 : i = 16112
        · subst h2; cases h
        · rw [kept_slot i h1 h2] at h; cases h
  · rintro i r (h | h) ⟨hq, hd⟩
    · obtain ⟨-, rfl⟩ := kept_live i r h
      cases hd
    · by_cases h1 : i = 301
      · subst h1; cases h; cases hq
      by_cases h2 : i = 16112
      · subst h2; cases h
      · rw [kept_slot i h1 h2] at h; cases h

/-- For PoolStaysSound: a port bound, one quarantined, an address disarmed. -/
theorem witness_PoolStaysSound : kept.pool.sound ∧ kept.disarmedBelow ∧ kept.geometryHeld ∧ kept.portsNamed ∧
    kept.pool.armed[0] = false ∧ (after .remove kept).pool.bound = [] := by
  refine ⟨by unfold Pool.sound; decide +kernel, by unfold State.disarmedBelow; decide +kernel,
    by unfold State.geometryHeld; decide +kernel, ⟨?_, ?_, by decide +kernel⟩, rfl, by decide +kernel⟩
  · intro n
    constructor
    · intro h
      have e : n = ⟨0, 40000⟩ := by simpa [kept] using h
      subst e
      exact ⟨by decide +kernel, 16112, keptRecord, rfl, rfl⟩
    · rintro ⟨-, i, r, h, hn⟩
      obtain ⟨rfl, rfl⟩ := kept_live i r h
      cases hn
      decide
  · intro n i j p q _ hp hq _ _
    rw [(kept_live i p hp).1, (kept_live j q hq).1]

/-- R72, by its outcomes: a DELTA record that binds a port while the count stands at the threshold disarms the address, latching POOL_LOW
once; a hold served that lifts the count to it re-arms; and a threshold configured is evaluated at once. -/
theorem witness_poolLowFollows :
    let s (low : Nat) (armed : Bool) : State := { kept with
      cfg := { kept.cfg with poolLow := low }, pool := { kept.pool with armed := #v[armed, true, true, true] } }
    let d : FullDelta := ⟨.create, 5, 1, udpOther, 3, false, 5, 6, some ⟨0, 40081⟩, none⟩
    let bind := Instr.deltaReceived (Frame.delta 0 [.full d]).bytes
    let serve (s : State) : State := { s with
      aging := { s.aging with ticks := 4000 }, due := ⟨false, false, false, false, false, true⟩ }
    let shown (t : State) : Bool × Bool := (t.pool.armed[0], t.latched .poolLow)
    kept.freeCount 0 = 32127 ∧
    [(32127, true), (32126, true), (32127, false)].map (fun q => shown (after bind (s q.1 q.2))) =
      [(false, true), (true, false), (false, false)] ∧
    [(32128, false), (32129, false)].map (fun q => shown (after .quarantineHoldExpiry (serve (s q.1 q.2)))) =
      [(true, false), (false, false)] ∧
    shown (after .setConfig (asking zeros (s 32768 false))) = (true, false) := by decide +kernel

/-- An owed REFRESH that meets an entry of its slot, which keeps its place and kind. -/
theorem witness_WalkerVisits_merged :
    let s : State := { dueAt 10510 true 0 with dq := ⟨[⟨16112, .create⟩], false, 0⟩ }
    s.up = true ∧ s.entryKind 16112 = some .create ∧ s.dq.entries.length < 768 ∧ (s.slot s.aging.position).live?.isSome = true ∧
    (after .walkerVisit s).dq.entries = [⟨16112, .create⟩] ∧ (after .walkerVisit s).req.counters.deltasCoalesced = 1 := by
  decide +kernel

/-- The page that ends the relation, by comply, letter and acknowledgment, and a page 2 met in UP. -/
theorem witness_RelationEnds_helloSeen :
    let one (comply ackToggle : Bool) (letter exchange : Byte) : HelloPage :=
      ⟨true, ackToggle, comply, true, 3, exchange, .identity ⟨letter, 8, 7, .listen, 0⟩⟩
    let two := peerPage true false (.geometry 16896 4096 1)
    (∀ p ∈ [one false false 1 1, one true false 0 1, one true true 1 1, one true false 1 1, two],
      parseFrame (Frame.hello p).bytes = some (.hello p)) ∧ 1 < two.content.number ∧
    active.pageAgrees (one true false 1 1).content ∧ ¬ active.pageAgrees (one true false 0 1).content ∧
    active.port.carrier = true ∧ active.role ≠ .boot ∧ (after (.helloInUp (Frame.hello (one true false 1 1)).bytes) active).hello.exchange = 1 ∧
    [one false false 1 1, one true false 0 1, one true true 1 1, one true false 1 1, two].map (fun p =>
      let t := after (.helloInUp (Frame.hello p).bytes) active
      (t.port.link, t.hello.refusal, t.hello.taken, t.hello.ownPage)) =
      [(.refused, some ⟨1, true⟩, 0, 1), (.refused, some ⟨1, false⟩, 0, 1), (.hello, none, 1, 1), (.hello, none, 1, 2),
        (.up, none, 0, 1)] := by
  refine ⟨by decide +kernel, by decide +kernel, by unfold State.pageAgrees; decide +kernel, fun h => h rfl, rfl, by decide,
    by decide +kernel, by decide +kernel⟩

/-- A SWEEP_END that waits with 18 and more records before it, with and without a SWEEP_BEGIN. -/
theorem witness_SweepPassesFreeSlots_waiting :
    ∀ q ∈ [(18, true), (19, false), (19, true), (20, false), (21, false)], let u := queued .active q.1 false
      let s := { u with sweep := ⟨.sweeping, 16896, 0⟩, port := { u.port with sweepBegin := q.2, sweepEnd := true } }
      s.resetLow = false ∧ tableWf s.table = true ∧ s.port.yieldMarker = false ∧ (s.dq.entries.map (·.slot)).Nodup ∧
      s.dq.entries.filter (fun e => decide (e.slot < 16896)) = s.dq.entries ∧
      (∀ e ∈ s.dq.entries, (s.entryDelta e).isSome = true) ∧
      ((after .frameBuild s).port.inFlight.map (fun f => (f.records.length, f.endsSweep, f.records.getLast? == some .sweepEnd)),
        (after .frameBuild s).sweep.state, (after .frameBuild s).dq.entries.length) =
        ([(20, true, true)], .draining, q.1 - if q.2 then 18 else 19) := by decide +kernel

/-- A dirty slot 16,895, the last one and one of two. -/
theorem witness_CatchupRepairs_last :
    let dirty : Record := { rec1 with marks := ⟨false, true, false⟩ }
    let s (more : Table) : State := { unitIn .active .up with table := more ++ [(16895, ⟨3, .live dirty⟩)], dq := ⟨[], true, 16895⟩ }
    let two := s [(7, ⟨1, .doomed { dirty with key := udpOther }⟩)]
    (s []).resetLow = false ∧ tableWf (s []).table = true ∧ (s []).dirtyAt 16895 = true ∧ (s []).entryKind 16895 = none ∧
    (s []).dirtyCount = 1 ∧ tableWf two.table = true ∧ two.dirtyAt 16895 = true ∧ two.dirtyCount = 2 ∧
    [s [], two].map (fun s => (after .catchupVisit s).dq) =
      [⟨[⟨16895, .change⟩], false, 0⟩, ⟨[⟨16895, .change⟩], true, 0⟩] := by decide +kernel

/-- A record of the same key LIVE outside its bucket is superseded too; and the steps that a frame of three records takes, an accepted
frame after its last. -/
theorem witness_DeltaFramesApplied_several :
    let s : State := { unitIn .standby .up with
      table := [(5, ⟨31, .live rec1⟩)], port := { (unitIn .standby .up).port with tx := { Transmitter.initial with sending := some (.ack 9) } } }
    let d : FullDelta := ⟨.create, 16113, 4, key1, 3, false, 5, 6, none, some tcp1⟩
    let all := (Frame.delta 0 [.full d, .delete 16113 6 key1, .yieldMarker]).bytes
    let first := after (.deltaReceived all) s
    parseFrame all = some (.delta 0 [.full d, .delete 16113 6 key1, .yieldMarker]) ∧ s.port.expected = 0 ∧ s.port.tx.sending ≠ none ∧
    5 / 4 ≠ key1.bucket s.cfg.seed ∧ (s.slot 5).live? = some rec1 ∧
    [first, idled first, idled (idled first), idled (idled (idled first))].map (fun t => (t.table.map (fun e => (e.1, e.2.live?.isSome)),
      t.role, t.port.applying.length, t.port.expected, t.port.tx.acks)) =
      [([(5, false), (16113, true)], .standby, 2, 0, []), ([(5, false), (16113, false)], .standby, 1, 0, []),
        ([(5, false), (16113, false)], .takeover, 0, 1, [1]), ([(5, false), (16113, false)], .takeover, 0, 1, [1])] := by decide +kernel

/-- A slot whose DELETE is acknowledged while an entry names it again. -/
theorem witness_AckRetiresFrames_queued :
    let s : State := { lossy with dq := ⟨[⟨300, .delete⟩, ⟨301, .delete⟩], false, 0⟩ }
    s.resetLow = false ∧ tableWf s.table = true ∧ (after (.ackReceived (Frame.ack 16).bytes) s).dq.entries = [⟨301, .delete⟩] ∧
    ((after (.ackReceived (Frame.ack 16).bytes) s).slot 300).body = .free := by decide +kernel

/-- The driver's bits of ACTIVE: into a high bit, from a high bit into a low one, and on through a low run. -/
theorem witness_LineEdgesSamplesAndBits_runs :
    let s (i : Nat) (low : Option Nat) : State := { unitIn .active .up with clock := 100000, driver := ⟨some .active, some i, 0, low⟩ }
    [(11, some 5), (7, none), (8, some 5)].map (fun q =>
      ((s q.1 q.2).driver.level, (after (.driverBitTime 0) (s q.1 q.2)).driver.level,
        (after (.driverBitTime 0) (s q.1 q.2)).driver.lowSince)) =
      [(false, true, none), (true, false, some 100000), (false, false, some 5)] := by decide +kernel

/-- Two records that name one port, one in its bucket and one in the spill area: the first is kept. -/
theorem witness_StartLeavesBoot_port :
    let r : Record := { rec1 with nat := some ⟨0, 40000⟩ }
    let s : State := asking (request 13 []) { unitIn .boot .hello with
      table := [(16112, ⟨31, .live r⟩), (16384, ⟨2, .live { r with key := udpOther, tcp := none }⟩)] }
    s.canBegin (request 13 []) 13 0 ∧ tableWf s.table = true ∧ 16112 / 4 = key1.bucket s.cfg.seed ∧ s.cfg.addrCount = 1 ∧
    1024 + 64 * s.cfg.staticBlocks ≤ (40000 : BitVec 16).toNat ∧
    (let t := after .start s
    (t.table.map (fun e => (e.1, e.2.live?.isSome)), t.pool.bound)) = ([(16112, true), (16384, false)], [⟨0, 40000⟩]) := by
  unfold State.canBegin; decide +kernel

/-- A state with nothing left unseen: a health hold that runs. -/
theorem witness_RelationStaysSound_settled : yielder.settled ∧ State.reset.settled := by
  unfold State.settled State.prefersPeer; decide +kernel

/-- What follows a step: a BEAT for a role, a sweep and a lagging flag that change, to an idle and to a busy transmitter; a health hold
that starts, one that stops. -/
theorem witness_followsUp :
    let busy (s : State) : State := { s with port := { s.port with tx := { Transmitter.initial with sending := some (.ack 9) } } }
    let graced := unitIn .takeover .up
    let swept : State := { lossy with
      sweep := ⟨.draining, 16896, 0⟩, port := { lossy.port with inFlight := [⟨15, [.sweepEnd], 1, some 0, true⟩] } }
    let beat (t : State) : Beat := t.beatOf t.liveCount
    ((after .graceEnd graced).port.tx.sending = some (.beat (beat (after .graceEnd graced))) ∧ (after .graceEnd graced).role = .active ∧
      (after .graceEnd (busy graced)).port.tx.beat = some (beat (after .graceEnd (busy graced)))) ∧
    (let t := after (.ackReceived (Frame.ack 16).bytes) (busy swept)
    t.sweep.state = .idle ∧ t.port.tx.beat = some (beat t)) ∧
    (let t := after .catchupVisit (busy { kept with dq := { kept.dq with catchup := true, catchupCursor := 301 } })
    kept.dirtyCount = 1 ∧ t.dirtyCount = 0 ∧ t.port.tx.beat = some (beat t)) ∧
    (let t := after .health (asking (request 10 [7]) yielder)
    t.arb.healthHold = none ∧ (after .health (asking (request 10 [4]) t)).arb.healthHold = some 0) := by decide +kernel

/-- R87 within a step and between two: a build that drops the entry of a slot and then scans the last dirty one, and a DELTA frame whose
first record takes the entry and whose second the dirty slot. -/
theorem test_catchup_starts_within :
    let t := after .frameBuild (passing 256 false false)
    let made : FullDelta := ⟨.create, 301, 9, udpOther, 3, false, 5, 6, none, none⟩
    let records := (Frame.delta 0 [.delete 16112 31 key1, .full made]).bytes
    let u := idled (after (.deltaReceived records) kept)
    (passing 256 false false).dq.catchup = false ∧ (passing 256 false false).dirtyAt 302 = true ∧
    (t.dq, t.dirtyCount) = (⟨[], true, 0⟩, 0) ∧ (kept.dq.catchup, kept.dirtyCount) = (false, 1) ∧
    (u.dq, u.dirtyCount) = (⟨[], true, 0⟩, 0) := by decide +kernel

/-- A refusal by the peer, met in each kind of role, on a SILENT and on an ACTIVE line; and one made by this side. -/
theorem witness_HelloPagesTaken_refused :
    let s (role : Role) (letter : UnitLetter) (cls : LineClass) : State :=
      let u := meetingAs role ⟨1, 8, 7, .active, 0⟩ 1 1
      { u with letter := letter, monitor := { u.monitor with cls := cls } }
    let page := (Frame.hello (peerPage false false (.timers 100))).bytes
    let wrong := (Frame.hello (peerPage true true (.geometry 16896 4096 1))).bytes
    let shown (t : State) : Role × LinkState × Bool := (t.role, t.port.link, t.latched .splitResolved)
    [s .standby .a .silent, s .joining .b .active, s .active .b .active, s .takeover .a .active, s .yielding .a .silent,
        s .listen .a .silent].map (fun s => shown (after (.helloPageReceived page) s)) =
      [(.takeover, .refused, false), (.isolated, .refused, false), (.isolated, .refused, true), (.takeover, .refused, false),
        (.active, .refused, false), (.listen, .refused, false)] ∧
    shown (after (.helloPageReceived wrong) (s .standby .a .silent)) = (.takeover, .refused, false) := by decide +kernel

/-- The other ends of a STANDBY unit's relation: silence, exhaustion, and a page 1 that is taken and one that is refused. -/
theorem witness_PeerLossDecision_ends :
    let u := standing .a .silent false
    let quiet : State := { u with due := ⟨false, true, false, false, false, false⟩, port := { u.port with silence := some 3 } }
    let tried : State := { u with clock := 125000, port := { u.port with inFlight := [flying 0 [.sweepEnd] 6 (some 0)] } }
    let one (comply : Bool) := peerPage comply true (.identity ⟨1, 8, 7, .listen, 0⟩)
    (quiet.due.silence = true ∧ quiet.port.silence = some 3 ∧ quiet.cfg.beatsLost * quiet.cfg.heartbeat ≤ 3) ∧
    0 + 125000 ≤ (tried.atPhase 0).clock ∧
    (∀ comply ∈ [false, true], parseFrame (Frame.hello (one comply)).bytes = some (.hello (one comply))) ∧
    [after .silenceTimeout quiet, after (.retransmitTimeout 0) tried, after (.helloInUp (Frame.hello (one true)).bytes) u,
        after (.helloInUp (Frame.hello (one false)).bytes) u].map (fun t => (t.role, t.port.link, t.arb.epoch)) =
      [(.takeover, .hello, 1), (.takeover, .hello, 1), (.takeover, .hello, 1), (.takeover, .refused, 1)] := by decide +kernel

/-- What an offer counts: a merge, a new overflow mark and one that stands, and the port that a full quarantine list gives up. -/
theorem witness_offerCounted :
    let counts (t : State) : Nat × Nat × Nat × Bool :=
      (t.req.counters.deltasCoalesced, t.req.counters.overflowMarks, t.req.counters.quarantineEarly, t.latched .queueOverflow)
    let full (m : Marks) : State := { kept with
      table := [(16112, ⟨31, .live { keptRecord with marks := m }⟩)], dq := ⟨queueOf 1024, false, 0⟩ }
    let late : State := { kept with pool := { kept.pool with
      quarantine := (List.range 512).map (fun k => ⟨⟨1, BitVec.ofNat 16 (2000 + k)⟩, 9⟩) } }
    [kept, full ⟨false, false, false⟩, full ⟨false, true, false⟩, late].map (fun s => counts (after .remove s)) =
      [(1, 0, 0, false), (0, 1, 0, true), (0, 0, 0, false), (1, 0, 1, false)] ∧
    counts (after .touch (asking (request 5 [7, 0, 0, 0, 0, 0]) coalescing)) = (1, 0, 0, false) ∧
    (after .touch (asking (request 5 [7, 0, 0, 0, 0, 0]) coalescing)).dq.entries = coalescing.dq.entries := by decide +kernel

/-- R99: a returned probe waits behind those of lower numbers and before those of higher ones, behind a frame in transmission; an idle
transmitter takes the first. -/
theorem witness_ProbesReturnedAndCounted_order :
    let p (number : Nat) (direction : Byte) : Probe := ⟨BitVec.ofNat 8 number, direction, List.replicate 32 0⟩
    let s (sending : Option Frame) : State := { active with
      port := { active.port with tx := { Transmitter.initial with sending := sending, returned := [p 2 1, p 5 1] } } }
    (s none).up = true ∧ (s none).port.applying = [] ∧
    (∀ n ∈ [1, 3, 9], parseFrame (Frame.probe (p n 0)).bytes = some (.probe (p n 0))) ∧
    [1, 3, 9].map (fun n => (after (.probeOutboundReceived (Frame.probe (p n 0)).bytes) (s (some (.ack 1)))).port.tx.returned.map
      (·.number)) = [[1, 2, 5], [2, 3, 5], [2, 5, 9]] ∧
    (after (.probeOutboundReceived (Frame.probe (p 3 0)).bytes) (s none)).port.tx.returned = [p 3 1, p 5 1] := by decide +kernel

/-- R115: in LOOPBACK a probe of the internal loop counts and one from the cable does not, marked returned or outbound. -/
theorem witness_ProbesReturnedAndCounted_loopback :
    let s (counted : List Nat) : State := { unitIn .boot .loopback with
      req := { State.reset.req with running := some ⟨7, false, 64, counted, some 0, false⟩ } }
    let p (number dir : Byte) : Probe := ⟨number, dir, (List.range 32).map (fun j => BitVec.ofNat 8 (number.toNat * 4 + j))⟩
    let counted (t : State) : Option Nat := t.req.running.map (fun u => u.counted.length)
    (s [5]).resetLow = false ∧ (s [5]).port.link = .loopback ∧ (s [5]).req.running = some ⟨7, false, 64, [5], some 0, false⟩ ∧
    (∀ d ∈ [0, 1], parseFrame (Frame.probe (p 6 (BitVec.ofNat 8 d))).bytes = some (.probe (p 6 (BitVec.ofNat 8 d)))) ∧
    counted (after (.probeReturned (Frame.probe (p 6 0)).bytes) (s [5])) = some 2 ∧
    (after (.probeReturned (Frame.probe (p 6 1)).bytes) (s [5])) = s [5] ∧
    (after (.probeOutboundReceived (Frame.probe (p 6 0)).bytes) (s [5])) = s [5] ∧
    answer (after (.probeReturned (Frame.probe (p 63 0)).bytes) (s (List.range 63))) = some (.ok, [64, 64]) ∧
    active.req.running = none ∧ active.up = true := by decide +kernel

/-- R191: a write of the event enable whose upper bytes, or whose lowest byte alone, are not written. -/
theorem witness_EventsLatchedEnabledAndRead_narrow :
    (∀ q ∈ [(3, 0xBEEF), (1, 0xEF), (2, 0xBE00), (12, 0x12340000)], ∀ k < 4,
      (BitVec.ofNat 32 q.2).extractLsb' (8 * k) 8 =
        if (BitVec.ofNat 4 q.1).getLsbD k then (0x1234BEEF : Word).extractLsb' (8 * k) 8 else 0) ∧
    [3, 1, 2, 12].map (fun lanes => (after (.eventEnableWrite 0x1234BEEF (BitVec.ofNat 4 lanes)) active).req.enable) =
      [0xBEEF, 0xEF, 0xBE00, 0] := by decide +kernel

/-- R139, R104: a takeover that ends, a yield that begins and one that times out in the middle of a repetition keep it; an unplaced YIELD
marker goes with the yield. -/
theorem witness_roleChangeTaken :
    let mid (s : State) : State := { s with clock := 130000, driver := ⟨some .active, some 3, 100000, some 100000⟩ }
    let yielding : State := { unitIn .yielding .up with
      arb := { (unitIn .yielding .up).arb with yieldTimer := some 20, yieldHanded := true }
      port := { (unitIn .yielding .up).port with yieldMarker := true }
      due := ⟨false, false, false, false, true, false⟩ }
    (∀ s ∈ [mid (unitIn .takeover .up), mid yielder, mid yielding], s.driver.pattern = s.role.pattern) ∧
    [after .graceEnd (mid (unitIn .takeover .up)), after .healthHoldYield (mid yielder), after .yieldTimeout (mid yielding)].map
      (fun t => (t.role, t.driver, t.arb.yieldTimer, t.port.yieldMarker)) =
      [(.active, ⟨some .active, some 3, 100000, some 100000⟩, none, false),
        (.yielding, ⟨some .active, some 3, 100000, some 100000⟩, some 0, true),
        (.active, ⟨some .active, some 3, 100000, some 100000⟩, none, false)] := by decide +kernel

/-- A unit of the active side in a sweep, its markers still to be placed, and a peer that stands higher. -/
def marked : State :=
  let s := passing 256 true true
  { s with
    arb := { s.arb with peer := ⟨some .active, 7, 9, 1, 0, .idle, false, false⟩ }, port := { s.port with carrier := true } }

/-- R104: markers that wait are sound in a sweep, and are gone with a stand-down, with a SWEEP_BEGIN taken and with the relation. -/
theorem witness_RelationStaysSound_markers :
    let b : Beat := ⟨.active, 7, 9, true, false, false, .idle, 0⟩
    marked.relationSound ∧ marked.markersSound ∧ marked.sweep.state ≠ .idle ∧ lively.markersSound ∧
    [after (.beatReceived (Frame.beat b).bytes) marked, after (.deltaReceived (Frame.delta 0 [.sweepBegin]).bytes) marked,
        after .carrierLoss marked].map (fun t => (t.role, t.port.sweepBegin, t.port.sweepEnd, t.sweep.state)) =
      [(.joining, false, false, .idle), (.joining, false, false, .idle), (.active, false, false, .idle)] := by
  refine ⟨⟨by unfold PairPort.linkByCarrier; decide +kernel, by decide +kernel, by decide +kernel, fun h => ?_⟩,
    by unfold State.markersSound; decide +kernel, by decide +kernel, by unfold State.markersSound; decide +kernel, by decide +kernel⟩
  exact absurd h (by decide +kernel)

/-- Twenty places taken among entries that the cursor rule drops: a DOOMED slot goes FREE, and what stands behind stays queued. -/
theorem witness_SweepPassesFreeSlots_dropped :
    let u := queued .active 22 false
    let ahead : State := passing 256 false false
    let s : State := { u with
      table := u.table.filter (fun e => decide (e.1 < 256)) ++ ahead.table.filter (fun e => decide (256 ≤ e.1))
      dq := ⟨[⟨301, .delete⟩, ⟨300, .change⟩] ++ u.dq.entries, false, 0⟩, sweep := ⟨.sweeping, 256, 3⟩ }
    let t := after .frameBuild s
    tableWf s.table = true ∧ (s.dq.entries.map (·.slot)).Nodup ∧ s.port.sweepEnd = false ∧
    (∀ e ∈ s.dq.entries.filter (fun e => decide (e.slot < 256)), (s.entryDelta e).isSome = true) ∧
    (s.dq.entries.filter (fun e => decide (e.slot < 256))).length = 22 ∧
    ((t.slot 301).body == .free, (t.slot 300).live?.map (·.marks), t.dq.entries.length,
      t.port.inFlight.map (fun f => f.records.length)) = (true, some ⟨false, false, false⟩, 2, [20]) := by decide +kernel

/-- Two LIVE records that bind their ports, and a full quarantine list. -/
def ported : State :=
  { unitIn .standby .up with
    table := [(16112, ⟨31, .live { rec1 with nat := some ⟨0, 40000⟩ }⟩),
      (16384, ⟨2, .live { rec1 with key := udpOther, tcp := none, home := some 4028, nat := some ⟨0, 41000⟩ }⟩)]
    pool := { Pool.initial with
      bound := [⟨0, 40000⟩, ⟨0, 41000⟩], quarantine := (List.range 512).map (fun n => ⟨⟨0, BitVec.ofNat 16 (2000 + n)⟩, 9⟩) } }

theorem ported_keys : ported.keysUnique := by
  have h (j : Nat) (q : Record) (hq : (ported.slot j).live? = some q) : j = 16112 ∧ q.key = key1 ∨ j = 16384 ∧ q.key = udpOther := by
    by_cases h1 : j = 16112
    · subst h1; cases hq; exact Or.inl ⟨rfl, rfl⟩
    · by_cases h2 : j = 16384
      · subst h2; cases hq; exact Or.inr ⟨rfl, rfl⟩
      · rw [slot_of_two ported 16112 16384 _ _ rfl j h1 h2] at hq; cases hq
  intro i j p q hp hq e
  obtain ⟨rfl, h1⟩ | ⟨rfl, h1⟩ := h i p hp <;> obtain ⟨rfl, h2⟩ | ⟨rfl, h2⟩ := h j q hq
  · rfl
  · exact absurd (h1.symm.trans (e.trans h2)) (by decide)
  · exact absurd (h1.symm.trans (e.trans h2)) (by decide)
  · rfl

/-- The ports of a rewritten slot: the record of the key gives up its own, which a full quarantine list takes by giving up its head, the
port named leaves the quarantine, and the slot's old port follows. -/
theorem witness_DeltaFramesApplied_ports :
    let d : FullDelta := ⟨.create, 16384, 3, key1, 3, false, 5, 6, some ⟨0, 2001⟩, some tcp1⟩
    let t := after (.deltaReceived (Frame.delta 0 [.full d]).bytes) ported
    parseFrame (Frame.delta 0 [.full d]).bytes = some (.delta 0 [.full d]) ∧ tableWf ported.table = true ∧
    0 < ((3 : Word) - (ported.slot 16384).version).toInt ∧ ported.keysUnique ∧
    (ported.slot 16112).live?.map (fun r => (r.key, r.nat)) = some (key1, some ⟨0, 40000⟩) ∧
    ported.pool.serves ⟨0, 2001⟩ = true ∧ (ported.slot 16384).live?.bind (·.nat) = some ⟨0, 41000⟩ ∧
    t.ports = ported.afterRelease (some ⟨0, 41000⟩) (ported.afterBinding (some ⟨0, 2001⟩) (ported.afterRelease none
      (ported.afterRelease (some ⟨0, 40000⟩) ported.ports))) ∧
    (t.pool.bound, t.pool.quarantine.length, t.req.counters.quarantineEarly, (t.pool.quarantine.drop 510).map (·.port)) =
      ([⟨0, 2001⟩], 512, 1, [⟨0, 40000⟩, ⟨0, 41000⟩]) :=
  ⟨by decide +kernel, by decide +kernel, by decide +kernel, ported_keys, by decide +kernel, by decide +kernel, by decide +kernel,
    by decide +kernel, by decide +kernel⟩

/-- A BEAT from a JOINING peer leaves the lane mode BOTH, and one that starts a sweep sets it OWN. -/
theorem witness_BeatReplacesPeerView_lanes :
    let s : State := { active with pool := { active.pool with laneMode := .both } }
    [Role.joining, .standby, .active].map (fun role =>
      (after (.beatReceived (Frame.beat ⟨role, 7, 7, true, false, false, .idle, 0⟩).bytes) s).pool.laneMode) =
      [.both, .own, .own] := by decide +kernel

/-- R72: a threshold above the usable lanes, written in BOOT, latches POOL_LOW there, and START latches it no more (assumption 51). -/
theorem test_threshold_in_boot :
    let body := (List.range 28).map (fun n => if n = 26 then (32768 : Word) else if n = 19 then 1 else if n = 24 then 4 else 0)
    let s := after .setConfig (asking (request 12 body) (unitIn .boot .down))
    let t := after .start (asking (request 13 []) { s with req := { s.req with latch := 0, completions := [] } })
    (s.latched .poolLow, t.role, t.latched .poolLow) = (true, .listen, false) := by decide +kernel

/-- R158: a SOFT_RESET in TAKEOVER stops the grace timer with the ticks it had left, and latches no GRACE_ENDED. -/
theorem test_soft_reset_grace :
    let s : State := { unitIn .takeover .up with arb := { (unitIn .takeover .up).arb with grace := 37 } }
    let t := after .softReset (asking (request 16 []) s)
    (t.role, t.arb.grace, t.latched .graceEnded, (after .tick t).arb.grace) = (.boot, 37, false, 37) := by decide +kernel

end Sys2Proof.Tests
end

section
/-! SUPPORT, and the proof of O49 (R17). First the latch, one slot written, and an offer of CHANGE; then how a request that is begun ends;
then UPDATE. -/

namespace Sys2Proof.Machine

/-- A LIVE slot, by its version and record. -/
theorem Slot.eq_of_live {x : Slot} {q : Record} (h : x.live? = some q) : x = ⟨x.version, .live q⟩ := by
  obtain ⟨v, body⟩ := x
  cases body <;> simp_all [Slot.live?]

namespace State

theorem forwarding_iff (s : State) : s.forwarding = true ↔ s.role = .active ∨ s.role = .takeover := by
  unfold forwarding; cases s.role <;> simp

/-! ### The event latch -/

/-- R179: latching an event sets its own bit and leaves every other. -/
theorem latched_latch (s : State) (e e' : Event) : (s.latch e).latched e' = (decide (e = e') || s.latched e') := by
  have bit : e.mask.getLsbD e'.bit = decide (e = e') := by cases e <;> cases e' <;> decide
  simp only [latched, latch, withReq_req, BitVec.getLsbD_or, bit, Bool.or_comm]

@[simp] theorem latched_countOverflow (s : State) (e : Event) : s.countOverflow.latched e = s.latched e := rfl

/-! ### The counters of an offer (R181) -/

@[simp] theorem counters_countCoalesced (s : State) : s.countCoalesced.req.counters =
    { s.req.counters with deltasCoalesced := min 65535 (s.req.counters.deltasCoalesced + 1) } := rfl

@[simp] theorem counters_countOverflow (s : State) : s.countOverflow.req.counters =
    { s.req.counters with overflowMarks := min 65535 (s.req.counters.overflowMarks + 1) } := rfl

/-! ### One slot written -/

theorem slot_setSlot {s : State} (h : tableWf s.table = true) (i j : Nat) (x : Slot) :
    (s.setSlot i x).slot j = if j = i then x else s.slot j :=
  tableGet_tablePut h i j x

theorem slot_mapMarks {s : State} (h : tableWf s.table = true) (i j : Nat) (f : Marks → Marks) :
    (s.mapMarks i f).slot j = if j = i then (s.slot i).mapRecord (fun r => { r with marks := f r.marks }) else s.slot j :=
  slot_setSlot h i j _

@[simp] theorem slot_setEntryKind (s : State) (i j : Nat) (k : QueueKind) : (s.setEntryKind i k).slot j = s.slot j := rfl

theorem slot_appendEntry {s : State} (h : tableWf s.table = true) (k : QueueKind) (i j : Nat) :
    (s.appendEntry k i).slot j =
      if j = i then (s.slot i).mapRecord (fun r => { r with marks := { r.marks with queued := true, dirty := false } })
      else s.slot j :=
  slot_mapMarks (s := s.withEntries (s.dq.entries ++ [⟨i, k⟩])) h i j (fun m => { m with queued := true, dirty := false })

@[simp] theorem slot_latch (s : State) (e : Event) (j : Nat) : (s.latch e).slot j = s.slot j := rfl
@[simp] theorem slot_countCoalesced (s : State) (j : Nat) : s.countCoalesced.slot j = s.slot j := rfl
@[simp] theorem slot_countOverflow (s : State) (j : Nat) : s.countOverflow.slot j = s.slot j := rfl

theorem dirtyAt_of_live {s : State} {i : Nat} {q : Record} (h : (s.slot i).live? = some q) : s.dirtyAt i = q.marks.dirty := by
  rw [dirtyAt, Slot.eq_of_live h]; rfl

/-! ### An offer -/

/-- R80 to R83, R85: an offer writes the table, the entries, the latch and the counters of merges and of dirty marks, and nothing else. -/
theorem offer_writes (s : State) (k : QueueKind) (i : Nat) : ∃ table entries latch coalesced marked,
    s.offer k i = { s with
      table := table
      dq := { s.dq with entries := entries }
      req := { s.req with
        latch := latch
        counters := { s.req.counters with deltasCoalesced := coalesced, overflowMarks := marked } } } := by
  unfold offer overflow appendEntry
  (repeat' split) <;> exact ⟨_, _, _, _, _, rfl⟩

/-- R82: the kind of an entry after a CHANGE is merged into it. -/
def changedKind : QueueKind → QueueKind
  | .refresh => .change
  | k => k

theorem mergeKind_change (e : QueueKind) : mergeKind e .change = some (changedKind e) := by cases e <;> rfl

/-- R80 to R82, R85: everything an offer of CHANGE can do on a forwarding unit. With no relation it is not taken; it merges into the
slot's entry, or joins the tail, or finds the queue full, where a dirty slot remembers the write already. -/
theorem offer_change_cases {s : State} (i : Nat) (hf : s.forwarding = true) :
    s.up = false ∧ s.offer .change i = s ∨
    (∃ e, s.up = true ∧ s.entryKind i = some e ∧ s.offer .change i = (s.setEntryKind i (changedKind e)).countCoalesced) ∨
    (s.up = true ∧ s.entryKind i = none ∧ s.dq.entries.length < 1024 ∧ s.offer .change i = s.appendEntry .change i) ∨
    (s.up = true ∧ s.entryKind i = none ∧ 1024 ≤ s.dq.entries.length ∧ s.dirtyAt i = true ∧ s.offer .change i = s) ∨
    (s.up = true ∧ s.entryKind i = none ∧ 1024 ≤ s.dq.entries.length ∧ s.dirtyAt i = false ∧
      s.offer .change i = ((s.mapMarks i (fun m => { m with dirty := true })).latch .queueOverflow).countOverflow) := by
  cases hu : s.up with
  | false => simp [offer, offersTaken, hu]
  | true =>
    cases hk : s.entryKind i with
    | some e => simp [offer, offersTaken, hu, hf, hk, mergeKind_change]
    | none =>
      rcases Nat.lt_or_ge s.dq.entries.length 1024 with hn | hn
      · simp [offer, offersTaken, hu, hf, hk, occupancy, Config.deltaQueueLimit, hn]
      · cases hd : s.dirtyAt i <;>
          simp [offer, offersTaken, hu, hf, hk, occupancy, Config.deltaQueueLimit, overflow, hd, hn, Nat.not_lt.2 hn]

/-- R82, R85: the entries after an offer of CHANGE. -/
theorem offer_change_entries {s : State} (i : Nat) (hf : s.forwarding = true) :
    (s.offer .change i).dq.entries = if s.up then s.entriesAfterChange i else s.dq.entries := by
  rcases offer_change_cases i hf with ⟨hu, h⟩ | ⟨e, hu, hk, h⟩ | ⟨hu, hk, hn, h⟩ | ⟨hu, hk, hn, -, h⟩ | ⟨hu, hk, hn, -, h⟩
  · simp [h, hu]
  · cases e <;> simp [h, hu, entriesAfterChange, hk, changedKind, setEntryKind, withEntries]
  · simp [h, hu, entriesAfterChange, hk, hn, appendEntry, withEntries]
  · simp [h, hu, entriesAfterChange, hk, Nat.not_lt.2 hn]
  · simp [h, hu, entriesAfterChange, hk, Nat.not_lt.2 hn]

/-- R85: a full queue leaves a mark already dirty as it is. -/
theorem marksAfterOffer_of_dirty {s : State} {i : Nat} {m : Marks} (hk : s.entryKind i = none)
    (hn : 1024 ≤ s.dq.entries.length) (hd : m.dirty = true) : s.marksAfterOffer i m = m := by
  simp [marksAfterOffer, hk, Nat.not_lt.2 hn, ← hd]

/-- R81, R85: an offer of CHANGE for a LIVE slot writes its marks, and no other slot. -/
theorem offer_change_slot {s : State} {i : Nat} {v : Word} {q : Record} (hf : s.forwarding = true) (hw : tableWf s.table = true)
    (hq : s.slot i = ⟨v, .live q⟩) (j : Nat) :
    (s.offer .change i).slot j =
      if j = i then ⟨v, .live { q with marks := if s.up then s.marksAfterOffer i q.marks else q.marks }⟩ else s.slot j := by
  have unwritten : s.slot j = if j = i then ⟨v, .live q⟩ else s.slot j := by
    split
    · next h => rw [h, hq]
    · rfl
  have hd : s.dirtyAt i = q.marks.dirty := dirtyAt_of_live (by rw [hq]; rfl)
  rcases offer_change_cases i hf with ⟨hu, h⟩ | ⟨e, hu, hk, h⟩ | ⟨hu, hk, hn, h⟩ | ⟨hu, hk, hn, hd', h⟩ | ⟨hu, hk, hn, -, h⟩ <;>
    rw [h]
  · simpa [hu] using unwritten
  · simpa [hu, hk, marksAfterOffer] using unwritten
  · simp [slot_appendEntry hw, hq, Slot.mapRecord, hu, hk, hn, marksAfterOffer]
  · simpa [hu, marksAfterOffer_of_dirty hk hn (hd.symm.trans hd')] using unwritten
  · simp [slot_mapMarks hw, hq, Slot.mapRecord, hu, hk, Nat.not_lt.2 hn, marksAfterOffer]

/-- R82, R85: what an offer of CHANGE counts and latches. -/
theorem offer_change_counted {s : State} (i : Nat) (hf : s.forwarding = true) : s.offerCounted (s.offer .change i) i := by
  unfold offerCounted
  rcases offer_change_cases i hf with ⟨hu, h⟩ | ⟨e, hu, hk, h⟩ | ⟨hu, hk, hn, h⟩ | ⟨hu, hk, hn, hd, h⟩ | ⟨hu, hk, hn, hd, h⟩ <;>
    rw [h]
  · simp [hu]
  · simp [hu, hk, latched]
  · simp [hu, hk, Nat.not_le.2 hn, latched]
  · simp [hu, hk, hd]
  · simp [hu, hk, hn, hd]

/-- R82, R85: an offer of CHANGE latches nothing but QUEUE_OVERFLOW. -/
theorem offer_change_latched {s : State} (i : Nat) {e : Event} (hf : s.forwarding = true) (he : e ≠ .queueOverflow) :
    (s.offer .change i).latched e = s.latched e := by
  rcases offer_change_cases i hf with ⟨-, h⟩ | ⟨k, -, -, h⟩ | ⟨-, -, -, h⟩ | ⟨-, -, -, -, h⟩ | ⟨-, -, -, -, h⟩ <;> rw [h]
  · rfl
  · rfl
  · exact (latched_latch _ _ e).trans (by simp [he.symm]; rfl)

/-! ### A LIVE record rewritten -/

/-- R17: a LIVE slot rewritten with this record: its version bumped, and a CHANGE offered. -/
def rewriteLive (i : Nat) (q : Record) (s : State) : State :=
  (s.setSlot i ⟨(s.slot i).version + 1, .live q⟩).offer .change i

section
variable {s : State} {i : Nat} {p q : Record}

theorem rewriteLive_slot (hf : s.forwarding = true) (hw : tableWf s.table = true) (hi : i < 16896) (j : Nat) :
    (s.rewriteLive i q).slot j = if j = i then ⟨(s.slot i).version + 1,
      .live { q with marks := if s.up then s.marksAfterOffer i q.marks else q.marks }⟩ else s.slot j := by
  have written := slot_setSlot hw i i ⟨(s.slot i).version + 1, .live q⟩
  rw [if_pos rfl] at written
  rw [rewriteLive, offer_change_slot (s := s.setSlot i _) hf (tablePut_wf hw (.inl hi)) written j]
  split
  · rfl
  · next hj => exact (slot_setSlot hw i j _).trans (if_neg hj)

theorem rewriteLive_entries (hf : s.forwarding = true) :
    (s.rewriteLive i q).dq.entries = if s.up then s.entriesAfterChange i else s.dq.entries :=
  offer_change_entries (s := s.setSlot i _) i hf

theorem rewriteLive_queue : (s.rewriteLive i q).req.queue = s.req.queue := by simp [rewriteLive]

theorem rewriteLive_completions : (s.rewriteLive i q).req.completions = s.req.completions := by simp [rewriteLive]

/-- R85: the marks of the record kept, the offer counts as the slot stood before it was rewritten. -/
theorem rewriteLive_counted (hf : s.forwarding = true) (hw : tableWf s.table = true) (hl : (s.slot i).live? = some p)
    (hm : q.marks = p.marks) : s.offerCounted (s.rewriteLive i q) i := by
  have written : ((s.setSlot i ⟨(s.slot i).version + 1, .live q⟩).slot i).live? = some q := by
    rw [slot_setSlot hw, if_pos rfl]; rfl
  have dirty : (s.setSlot i ⟨(s.slot i).version + 1, .live q⟩).dirtyAt i = s.dirtyAt i := by
    rw [dirtyAt_of_live written, dirtyAt_of_live hl, hm]
  have counted := offer_change_counted (s := s.setSlot i ⟨(s.slot i).version + 1, .live q⟩) i hf
  unfold offerCounted at counted ⊢
  rwa [dirty] at counted

theorem rewriteLive_latched (hf : s.forwarding = true) {e : Event} (he : e ≠ .queueOverflow) :
    (s.rewriteLive i q).latched e = s.latched e :=
  offer_change_latched (s := s.setSlot i _) i hf he

end

/-! ### A request begun and completed (R176, R177) -/

@[simp] theorem slot_complete (s : State) (r : Request) (status : Status) (result : List Word) (j : Nat) :
    (s.complete r status result).slot j = s.slot j := rfl

@[simp] theorem slot_settle (before s : State) (j : Nat) : (settle before s).slot j = s.slot j := by
  simp [slot]

@[simp] theorem latched_settle (before s : State) (e : Event) : (settle before s).latched e = s.latched e := by
  simp [latched]

theorem latched_complete (s : State) (r : Request) (status : Status) (result : List Word) (e : Event) :
    (s.complete r status result).latched e = (decide (Event.completionReady = e) || s.latched e) :=
  latched_latch _ _ e

/-- `settle_changes`, with a name for each value `settle` writes. -/
theorem settle_writes (before s : State) : ∃ catchup cursor marker heartbeat tx handed hold, settle before s = { s with
    dq := { s.dq with catchup := catchup, catchupCursor := cursor }
    port := { s.port with yieldMarker := marker, heartbeat := heartbeat, tx := tx }
    arb := { s.arb with yieldHanded := handed, healthHold := hold } } :=
  ⟨_, _, _, _, _, _, _, settle_changes before s⟩

/-- R177: a begun request that only posts its completion leaves everything else but what follows at once. -/
theorem settle_answered (s : State) (r : Request) (status : Status) (result : List Word) :
    let t := settle s (s.beginRequest.complete r status result)
    t = (s.followedBy t).answered r status result :=
  settle_changes s _

/-- R177: the completion of a begun request that has done its work `u`, however the work went. -/
theorem settle_completed {s u : State} (r : Request) (status : Status) (result : List Word)
    (hq : u.req.queue = s.req.queue.tail) (hc : u.req.completions = s.req.completions) :
    s.completed (settle s (u.complete r status result)) r status result := by
  refine ⟨?_, ?_, ?_⟩
  · simp [hq]
  · simp [hc]
  · simp [latched_settle, latched_complete]

/-! ### A begun request that rewrites a LIVE record, with what follows at once -/

section
variable {s t : State} {r : Request} {i : Nat} {p q : Record} {status : Status} {result : List Word}
variable (ht : settle s ((s.beginRequest.rewriteLive i q).complete r status result) = t)
include ht

theorem settle_rewriteLive_completed : s.completed t r status result :=
  ht ▸ settle_completed r status result rewriteLive_queue rewriteLive_completions

theorem settle_rewriteLive_slot (hf : s.forwarding = true) (hw : tableWf s.table = true) (hi : i < 16896) (j : Nat) :
    t.slot j = if j = i then ⟨(s.slot i).version + 1,
      .live { q with marks := if s.up then s.marksAfterOffer i q.marks else q.marks }⟩ else s.slot j := by
  rw [← ht, slot_settle, slot_complete]
  exact rewriteLive_slot (s := s.beginRequest) hf hw hi j

theorem settle_rewriteLive_entries (hf : s.forwarding = true) :
    t.dq.entries = if s.up then s.entriesAfterChange i else s.dq.entries := by
  have entries : t.dq.entries = (s.beginRequest.rewriteLive i q).dq.entries := by simp [← ht]
  exact entries.trans (rewriteLive_entries (s := s.beginRequest) hf)

theorem settle_rewriteLive_counted (hf : s.forwarding = true) (hw : tableWf s.table = true) (hl : (s.slot i).live? = some p)
    (hm : q.marks = p.marks) : s.offerCounted t i := by
  have counters : t.req.counters = (s.beginRequest.rewriteLive i q).req.counters := by simp [← ht]
  have overflow : t.latched .queueOverflow = (s.beginRequest.rewriteLive i q).latched .queueOverflow := by
    rw [← ht, latched_settle, latched_complete]; rfl
  unfold offerCounted
  rw [counters, overflow]
  exact rewriteLive_counted (s := s.beginRequest) hf hw hl hm

theorem settle_rewriteLive_latchedOnly (hf : s.forwarding = true) : s.latchedOnly t [.completionReady, .queueOverflow] := by
  intro e he
  obtain ⟨hc, ho⟩ : e ≠ .completionReady ∧ e ≠ .queueOverflow := by simpa using he
  rw [← ht, latched_settle, latched_complete, rewriteLive_latched (s := s.beginRequest) hf ho, decide_eq_false hc.symm]
  rfl

theorem settle_rewriteLive_writes : t = { s.followedBy t with
    table := t.table
    dq := t.dq
    req := { s.req with
      queue := t.req.queue
      completions := t.req.completions
      latch := t.req.latch
      counters := { s.req.counters with
        deltasCoalesced := t.req.counters.deltasCoalesced
        overflowMarks := t.req.counters.overflowMarks } } } := by
  obtain ⟨table, entries, latch, coalesced, marked, offered⟩ :=
    offer_writes (s.beginRequest.setSlot i ⟨(s.slot i).version + 1, .live q⟩) .change i
  have rewritten : s.beginRequest.rewriteLive i q = _ := offered
  obtain ⟨catchup, cursor, marker, heartbeat, tx, handed, hold, settled⟩ :=
    settle_writes s ((s.beginRequest.rewriteLive i q).complete r status result)
  rw [← ht, settled, rewritten]
  rfl

end

/-! ### UPDATE (R17) -/

/-- R17, check 3. -/
theorem updateMalformed_iff (o : UpdateOperands) : updateMalformed o = true ↔
    o.natGiven = true ∨ (o.cls = none ∧ o.pinned = none ∧ o.scales = none ∧ o.snapshot = none) := by
  simp [updateMalformed, and_assoc]

/-- R17, check 5; R19, check 4. -/
theorem staleVersion_iff (s : State) (i : Nat) (expected : Option Word) :
    s.staleVersion i expected = true ↔ ∃ v, expected = some v ∧ v ≠ (s.slot i).version := by
  cases expected <;> simp [staleVersion]

/-- R8: a scale as UPDATE stores it. -/
def clampScale (x : Byte) : Byte := if 14 < x.toNat then 14 else x

/-- R8, R17: one direction of a TCP part with the values that are given. -/
def updatedDir (scale : Option Byte) (edge wend : Option Word) (d : TcpDir) : TcpDir where
  edge := edge.getD d.edge
  wend := wend.getD d.wend
  maxwin := d.maxwin
  scale := scale.getD d.scale

/-- R8, R17: the TCP part with the given scales and snapshot. -/
def updatedTcp (scales : Option (Byte × Byte)) (snapshot : Option Snapshot) (p : TcpPart) : TcpPart where
  outDir := updatedDir (scales.map (clampScale ·.1)) (snapshot.map (·.edgeOut)) (snapshot.map (·.wendOut)) p.outDir
  inDir := updatedDir (scales.map (clampScale ·.2)) (snapshot.map (·.edgeIn)) (snapshot.map (·.wendIn)) p.inDir

/-- R9, R17: the record UPDATE writes, field by field; a snapshot is a base write. -/
theorem updatedRecord_eq (s : State) (o : UpdateOperands) (q : Record) : s.updatedRecord o q = { q with
    cls := o.cls.getD q.cls
    deadline := (o.cls.map s.deadlineFor).getD q.deadline
    pinned := o.pinned.getD q.pinned
    tcp := q.tcp.map (updatedTcp o.scales o.snapshot)
    stamp := if o.snapshot = none then q.stamp else s.now
    baseEpoch := if o.snapshot = none then q.baseEpoch else s.arb.epoch
    seenEpoch := if o.snapshot = none then q.seenEpoch else s.arb.epoch
    seenOut := if o.snapshot = none then q.seenOut else false
    seenIn := if o.snapshot = none then q.seenIn else false } := by
  obtain ⟨key, home, cls, pinned, deadline, sent, touch, rate, stamp, base, seen, seenOut, seenIn, source, nat, tcp, marks⟩ := q
  unfold updatedRecord
  cases o.snapshot with
  | none => cases o.cls <;> cases o.scales <;> cases tcp <;> rfl
  | some e => cases o.cls <;> cases o.scales <;> cases tcp <;> rfl

section
variable {s : State} {r : Request} {q : Record}

theorem runUpdate_notActive (hf : s.forwarding = false) : s.runUpdate r = s.complete r .notActive [] := by
  simp [runUpdate, hf]

theorem runUpdate_badSlot (hf : s.forwarding = true) (hi : 16896 ≤ r.updateOperands.slot) :
    s.runUpdate r = s.complete r .badSlot [] := by
  simp [runUpdate, hf, Config.slotCount, hi]

theorem runUpdate_badRequest (hf : s.forwarding = true) (hi : r.updateOperands.slot < 16896)
    (hm : updateMalformed r.updateOperands = true) : s.runUpdate r = s.complete r .badRequest [] := by
  simp [runUpdate, hf, Config.slotCount, Nat.not_le.2 hi, hm]

variable (hf : s.forwarding = true) (hi : r.updateOperands.slot < 16896) (hm : updateMalformed r.updateOperands = false)
include hf hi hm

theorem runUpdate_noSession (hl : (s.slot r.updateOperands.slot).live? = none) :
    s.runUpdate r = s.complete r .noSession [] := by
  simp [runUpdate, hf, Config.slotCount, Nat.not_le.2 hi, hm, hl]

variable (hl : (s.slot r.updateOperands.slot).live? = some q)
include hl

theorem runUpdate_staleVersion (hv : s.staleVersion r.updateOperands.slot r.updateOperands.expected = true) :
    s.runUpdate r = s.complete r .staleVersion [(s.slot r.updateOperands.slot).version] := by
  simp [runUpdate, hf, Config.slotCount, Nat.not_le.2 hi, hm, hl, hv]

variable (hv : s.staleVersion r.updateOperands.slot r.updateOperands.expected = false)
include hv

theorem runUpdate_notTcp (ht : q.tcp = none) (hg : r.updateOperands.scales ≠ none ∨ r.updateOperands.snapshot ≠ none) :
    s.runUpdate r = s.complete r .notTcp [] := by
  simp [runUpdate, hf, Config.slotCount, Nat.not_le.2 hi, hm, hl, hv, ht, Option.isSome_iff_ne_none, hg]

/-- R17: past every check the record is rewritten with the given fields, and the result is the slot and its new version. -/
theorem runUpdate_ok (hw : tableWf s.table = true)
    (ht : q.tcp ≠ none ∨ (r.updateOperands.scales = none ∧ r.updateOperands.snapshot = none)) :
    s.runUpdate r = (s.rewriteLive r.updateOperands.slot (s.updatedRecord r.updateOperands q)).complete r .ok
      [BitVec.ofNat 32 r.updateOperands.slot, (s.slot r.updateOperands.slot).version + 1] := by
  have version : ((s.rewriteLive r.updateOperands.slot (s.updatedRecord r.updateOperands q)).slot r.updateOperands.slot).version =
      (s.slot r.updateOperands.slot).version + 1 := by
    rw [rewriteLive_slot hf hw hi, if_pos rfl]
  have ht' : ((r.updateOperands.scales.isSome || r.updateOperands.snapshot.isSome) && q.tcp.isNone) = false := by
    rcases ht with htcp | ⟨hscales, hsnapshot⟩
    · simp [Option.isSome_iff_ne_none.2 htcp]
    · simp [hscales, hsnapshot]
  rw [← version]
  simp [runUpdate, hf, Config.slotCount, Nat.not_le.2 hi, hm, hl, hv, ht', rewriteLive, slotVersion, numWord]

end

end State

/-- R176, R192: an UPDATE the executor can begin is executed. -/
theorem exec_update_begun {s : State} {r : Request} (h : s.canBegin r 4 8) :
    exec .update s = .next (State.settle s (s.beginRequest.runUpdate r)) := by
  obtain ⟨hreset, hrunning, hroom, hhead, hkind, hwords⟩ := h
  exact execute_begun hreset (readyRequest_eq_some.2 ⟨hrunning, hroom, hhead⟩) (by simp [Request.op, hkind, hwords])

end Sys2Proof.Machine

open Sys2Proof Sys2Proof.Machine Sys2Proof.Machine.State

/-- Settles O49: the refusals one by one in the order of R17's checks, then the write, by what `rewriteLive` does to the slot, the
queue, the counters and the latch. -/
theorem updateWritesGivenFields : Obligations.UpdateWritesGivenFields := by
  unfold Obligations.UpdateWritesGivenFields
  intro s r o i hb hw ho hi
  subst hi ho
  refine ⟨_, exec_update_begun hb, ?_⟩
  generalize ht : State.settle s (s.beginRequest.runUpdate r) = t
  have refused (status result) (h : s.beginRequest.runUpdate r = s.beginRequest.complete r status result) :
      t = (s.followedBy t).answered r status result := by
    rw [← ht, h]; exact settle_answered s r status result
  refine ⟨fun ha hk => refused _ _ (runUpdate_notActive ?_), fun hrole => ?_⟩
  · exact Bool.eq_false_iff.2 fun hf => ((forwarding_iff s).1 hf).elim ha hk
  have hf : s.forwarding = true := (forwarding_iff s).2 hrole
  refine ⟨fun hi => refused _ _ (runUpdate_badSlot hf hi), fun hi => ?_⟩
  refine ⟨fun hm => refused _ _ (runUpdate_badRequest hf hi ((updateMalformed_iff _).2 hm)), fun hn hg => ?_⟩
  have hm : updateMalformed r.updateOperands = false := by
    rw [← Bool.not_eq_true, updateMalformed_iff]; simp [hn]; tauto
  refine ⟨fun hl => refused _ _ (runUpdate_noSession hf hi hm hl), fun q hl => ⟨fun x hx hv => ?_, fun hx => ?_⟩⟩
  · exact refused _ _ (runUpdate_staleVersion hf hi hm hl ((staleVersion_iff _ _ _).2 ⟨x, hx, hv⟩))
  have hv : s.staleVersion r.updateOperands.slot r.updateOperands.expected = false := by
    rw [← Bool.not_eq_true, staleVersion_iff]
    rintro ⟨v, hv, hne⟩; exact hne (hx v hv)
  refine ⟨fun htcp hg => refused _ _ (runUpdate_notTcp hf hi hm hl hv htcp hg), fun htcp => ?_⟩
  rw [runUpdate_ok (s := s.beginRequest) hf hi hm hl hv hw htcp] at ht
  have marks : (s.beginRequest.updatedRecord r.updateOperands q).marks = q.marks := by rw [updatedRecord_eq]
  have slot := settle_rewriteLive_slot ht hf hw hi
  refine ⟨settle_rewriteLive_completed ht, ?_, fun j hj => (slot j).trans (if_neg hj), settle_rewriteLive_entries ht hf,
    settle_rewriteLive_counted ht hf hw hl marks, settle_rewriteLive_latchedOnly ht hf, settle_rewriteLive_writes ht⟩
  refine (slot _).trans ((if_pos rfl).trans ?_)
  rw [marks, updatedRecord_eq]
  cases r.updateOperands.cls <;> rfl
end

section
/-! SUPPORT, and the proofs of O52 and O53 (R28 to R44). First lookup by key, then the words of a CHECK, the verdict and the record
it leaves, the work on the request, and what a judged CHECK leaves of the state. -/

namespace Sys2Proof.Machine

/-! ### Lookup by key (R10) -/

theorem Slot.holdsKey_iff {x : Slot} {k : Key} : x.holdsKey k = true ↔ ∃ q, x.live? = some q ∧ q.key = k := by
  unfold Slot.holdsKey
  cases x.live? <;> simp

theorem Slot.ne_blank_of_live {x : Slot} {q : Record} (h : x.live? = some q) : x ≠ Slot.blank := by
  rintro rfl; simp [Slot.blank, Slot.live?] at h

/-- A listed slot of a canonical table reads as it is listed. -/
theorem tableGet_of_mem {t : Table} {i : Nat} {x : Slot} (hw : tableWf t = true) (hx : (i, x) ∈ t) : tableGet t i = x := by
  induction t with
  | nil => simp at hx
  | cons d t ih =>
    obtain ⟨-, -, above, hw⟩ := tableWf_cons.1 hw
    rcases List.mem_cons.1 hx with rfl | hx
    · simp [tableGet]
    · simp only [tableGet, if_neg (Nat.ne_of_gt (above _ hx)), ih hw hx]

/-- The ways of a bucket are the slots of the main region that the bucket's number divides out to. -/
theorem mem_bucketWays {b i : Nat} : i ∈ bucketWays b ↔ i / 4 = b := by
  simp only [bucketWays, List.mem_cons, List.not_mem_nil, or_false]; omega

/-- R10: a slot that lookup finds holds the normalised key. -/
theorem holdsKey_of_lookupKey {t : Table} {seed : Word} {k : Key} {i : Nat} (hw : tableWf t = true)
    (h : lookupKey t seed k = some i) : (tableGet t i).holdsKey k.normalise = true := by
  simp only [lookupKey] at h
  split at h
  · next j way => cases h; simpa using List.find?_some way
  · next =>
    obtain ⟨e, spilled, rfl⟩ := Option.map_eq_some_iff.1 h
    have held := List.find?_some spilled
    rw [tableGet_of_mem hw (List.mem_of_find?_eq_some spilled)]
    exact (Bool.and_eq_true_iff.1 held).2

/-- R10: lookup finds some slot when a way of the key's bucket, or a spill slot of that home bucket, holds the key. -/
theorem lookupKey_ne_none {t : Table} {seed : Word} {k : Key} {i : Nat} {q : Record} (hl : (tableGet t i).live? = some q)
    (hk : q.key = k.normalise)
    (hp : i / 4 = k.normalise.bucket seed ∨ (16384 ≤ i ∧ q.home = some (k.normalise.bucket seed))) :
    lookupKey t seed k ≠ none := by
  have held : (tableGet t i).holdsKey k.normalise = true := Slot.holdsKey_iff.2 ⟨q, hl, hk⟩
  intro missed
  simp only [lookupKey] at missed
  split at missed
  · cases missed
  · next noWay =>
    have noSpill := List.find?_eq_none.1 (Option.map_eq_none_iff.1 missed)
    rcases hp with way | ⟨spill, home⟩
    · exact List.find?_eq_none.1 noWay i (mem_bucketWays.2 way) held
    · refine noSpill _ (tableGet_mem (Slot.ne_blank_of_live hl)) ?_
      have record : (tableGet t i).record? = some q := by rw [Slot.eq_of_live hl]; rfl
      simp [isSpillOf, Config.mainSlots, spill, record, home, held]

namespace State

/-- R10, R12: lookup by key finds the one LIVE record of the key. -/
theorem lookupKey_of_findable {s : State} {k : Key} {i : Nat} {q : Record} (hw : tableWf s.table = true)
    (h : s.findable k.normalise i q) : lookupKey s.table s.cfg.seed k = some i := by
  obtain ⟨-, live, key, placed, unique⟩ := h
  cases found : lookupKey s.table s.cfg.seed k with
  | none => exact absurd found (lookupKey_ne_none live key placed)
  | some j =>
    obtain ⟨p, hp, hkey⟩ := Slot.holdsKey_iff.1 (holdsKey_of_lookupKey hw found)
    rw [unique j p hp hkey]

theorem lookupKey_of_absent {s : State} {k : Key} (hw : tableWf s.table = true) (h : s.absent k.normalise) :
    lookupKey s.table s.cfg.seed k = none := by
  cases found : lookupKey s.table s.cfg.seed k with
  | none => rfl
  | some j =>
    obtain ⟨p, hp, hkey⟩ := Slot.holdsKey_iff.1 (holdsKey_of_lookupKey hw found)
    exact absurd hkey (h j p hp)

end State

/-! ### The words of a CHECK (R192) -/

section
variable {r : Request}

/-- R192: bit 3 of the first word makes a direction code that is not assigned, and bit 2 tells the other two apart. -/
theorem Request.checkDirection_eq (r : Request) : r.checkDirection =
    if (r.word 0).getLsbD 3 then none else some (if (r.word 0).getLsbD 2 then .inDir else .outDir) := by
  have coded : ∀ c : BitVec 2, (match c.toNat with
      | 0 => some Direction.outDir
      | 1 => some .inDir
      | _ => none) = if c.getLsbD 1 then none else some (if c.getLsbD 0 then .inDir else .outDir) := by decide
  have direction := coded ((r.word 0).extractLsb' 2 2)
  simp only [BitVec.getLsbD_extractLsb', Nat.reduceAdd, Nat.reduceLT, decide_true, Bool.true_and] at direction
  exact direction

theorem Request.checkDirection_eq_none (h : (r.word 0).getLsbD 3 = true) : r.checkDirection = none := by
  rw [checkDirection_eq, if_pos h]

theorem Request.checkDirection_eq_some {dir : Direction} (h : (r.word 0).getLsbD 3 = false)
    (hd : dir = .inDir ↔ (r.word 0).getLsbD 2 = true) : r.checkDirection = some dir := by
  rw [checkDirection_eq, h]
  cases dir <;> simp_all

theorem Request.checkTarget_malformed (h : (r.word 0).getLsbD 0 = (r.word 0).getLsbD 1) : r.checkTarget = .malformed := by
  unfold checkTarget
  rw [h]
  cases (r.word 0).getLsbD 1 <;> rfl

theorem Request.checkTarget_slot (h0 : (r.word 0).getLsbD 0 = true) (h1 : (r.word 0).getLsbD 1 = false) :
    r.checkTarget = .slot ((r.word 0).toNat / 65536) := by
  have index : ((r.word 0).extractLsb' 16 16).toNat = (r.word 0).toNat / 65536 := by
    have := (r.word 0).isLt
    rw [BitVec.extractLsb'_toNat, Nat.shiftRight_eq_div_pow]; omega
  unfold checkTarget
  rw [h0, h1, ← index]

theorem Request.checkTarget_key (h0 : (r.word 0).getLsbD 0 = false) (h1 : (r.word 0).getLsbD 1 = true) :
    r.checkTarget = .key (r.key 1) := by
  unfold checkTarget
  rw [h0, h1]

end

/-! ### The verdict (R36 to R39) -/

section
variable {p : TcpPart} {g : Segment} {snd rcv : TcpDir} {dir : Direction}

/-- The sender's fields and the other direction's, told apart as the claims do. -/
theorem TcpPart.sides_eq (h : (snd, rcv) = (match dir with
    | .outDir => (p.outDir, p.inDir)
    | .inDir => (p.inDir, p.outDir))) : snd = p.sender dir ∧ rcv = p.other dir := by
  cases dir <;> exact Prod.mk.inj h

theorem Verdict.passes_iff (v : Verdict) : v.passes = true ↔ v.code ≤ 1 := by cases v <;> decide

/-- R36 to R39: the code of the verdict, by the three signed differences. -/
theorem judge_code (p : TcpPart) (g : Segment) (slack : Nat) : (judge p g slack).code =
    if signedDiff g.seq (p.sender g.dir).edge < -(max (p.sender g.dir).maxwin.toNat 1 : Nat) then 2
    else if (slack : Int) < signedDiff g.last (p.sender g.dir).wend then 3
    else if g.ackFlag = true ∧ (slack : Int) < signedDiff g.ack (p.other g.dir).edge then 4
    else if signedDiff g.last (p.sender g.dir).wend ≤ 0 ∧
      (g.ackFlag = true → signedDiff g.ack (p.other g.dir).edge ≤ 0) then 0 else 1 := by
  simp only [judge, Bool.and_eq_true, decide_eq_true_eq, Nat.cast_max, Nat.cast_one, Bool.eq_false_iff, ← imp_iff_not_or]
  (repeat' split) <;> rfl

/-- R39: a segment passes when it passes the tests it is given. -/
theorem judge_passes {slack : Nat} (ho : -(max (p.sender g.dir).maxwin.toNat 1 : Nat) ≤ signedDiff g.seq (p.sender g.dir).edge)
    (hu : signedDiff g.last (p.sender g.dir).wend ≤ slack)
    (ha : g.ackFlag = true → signedDiff g.ack (p.other g.dir).edge ≤ slack) : (judge p g slack).passes = true := by
  rw [Verdict.passes_iff, judge_code, if_neg (Int.not_lt.2 ho), if_neg (Int.not_lt.2 hu),
    if_neg fun h => Int.not_lt.2 (ha h.1) h.2]
  split <;> decide

end

namespace State

/-! ### Looseness and slack (R32 to R35) -/

/-- R32, said of a record with a TCP part. -/
theorem loose_iff {s : State} {q : Record} {p : TcpPart} (ht : q.tcp = some p) : s.loose q = true ↔
    s.role = .takeover ∧ q.baseEpoch ≠ s.arb.epoch ∧
      ¬ (q.seenEpoch = s.arb.epoch ∧ q.seenOut = true ∧ q.seenIn = true) := by
  simp only [loose, ht, Option.isSome_some, Bool.true_and, Bool.and_eq_true, Bool.not_eq_true', ← Bool.not_eq_true,
    decide_eq_true_eq, and_assoc]

end State

/-! ### The record a passing CHECK leaves (R40 to R42) -/

/-- R40. -/
theorem TcpDir.advanced_eq (d : TcpDir) (g : Segment) :
    d.advanced g = { d with edge := if 0 < signedDiff g.last d.edge then g.last else d.edge } := by
  unfold advanced later
  by_cases h : 0 < signedDiff g.last d.edge <;> simp [h]

/-- R41. -/
theorem TcpDir.allowed_eq (d : TcpDir) (g : Segment) (scale : Byte) : d.allowed g scale =
    if g.ackFlag then { d with
        wend := if 0 < signedDiff (g.ack + BitVec.ofNat 32 (effectiveWindow g scale)) d.wend then
            g.ack + BitVec.ofNat 32 (effectiveWindow g scale)
          else d.wend
        maxwin := BitVec.ofNat 32 (min 1073741824 (max d.maxwin.toNat (effectiveWindow g scale))) }
    else d := by
  simp [allowed, later, maxwinLimit]

namespace State

/-- R40 to R42: the record after a passing CHECK, field by field. -/
theorem passedRecord_eq (s : State) (q : Record) (p : TcpPart) (g : Segment) : s.passedRecord q p g = { q with
    tcp := some (p.passed g)
    marks := { q.marks with owed := q.marks.owed || s.up }
    seenEpoch := if s.loose q then s.arb.epoch else q.seenEpoch
    seenOut := if s.loose q then decide (g.dir = .outDir) || (decide (q.seenEpoch = s.arb.epoch) && q.seenOut) else q.seenOut
    seenIn := if s.loose q then decide (g.dir = .inDir) || (decide (q.seenEpoch = s.arb.epoch) && q.seenIn) else q.seenIn } := by
  unfold passedRecord
  cases s.loose q with
  | false => rfl
  | true =>
    by_cases he : q.seenEpoch = s.arb.epoch <;> cases hd : g.dir <;> simp [Record.seen, he]

/-- R40 to R42: a passing CHECK in ACTIVE or TAKEOVER writes its slot, and nothing else does. -/
theorem checkEffects_slot {s : State} (hw : tableWf s.table = true) (i : Nat) (q : Record) (p : TcpPart) (g : Segment)
    (v : Verdict) (j : Nat) : (s.checkEffects i q p g v).slot j =
      if j = i ∧ v.passes = true ∧ s.forwarding = true then ⟨(s.slot i).version + 1, .live (s.passedRecord q p g)⟩
      else s.slot j := by
  unfold checkEffects
  by_cases h : v.passes = true ∧ s.forwarding = true
  · simp [h, slot_setSlot hw]
  · have unwritten : (v.passes && s.forwarding) = false := by simpa using h
    simp [h, unwritten]

/-- R43, R44. -/
theorem checkEffects_withheld {s : State} {i : Nat} {q : Record} {p : TcpPart} {g : Segment} {v : Verdict}
    (h : v.passes = false ∨ s.forwarding = false) : s.checkEffects i q p g v = s := by
  unfold checkEffects
  rcases h with h | h <;> simp [h]

theorem checkEffects_writes (s : State) (i : Nat) (q : Record) (p : TcpPart) (g : Segment) (v : Verdict) :
    ∃ table, s.checkEffects i q p g v = { s with table := table } := by
  unfold checkEffects
  split <;> exact ⟨_, rfl⟩

/-- R40, R43: a judged TCP record has a TCP part still. -/
theorem checkEffects_tcp {s : State} {i : Nat} {q : Record} {p : TcpPart} (hw : tableWf s.table = true)
    (hl : (s.slot i).live? = some q) (ht : q.tcp = some p) (g : Segment) (v : Verdict) :
    ∃ p', ((s.checkEffects i q p g v).slot i).live?.bind (·.tcp) = some p' := by
  rw [checkEffects_slot hw]
  split
  · exact ⟨p.passed g, by simp [Slot.live?, passedRecord_eq]⟩
  · exact ⟨p, by simp [hl, ht]⟩

/-! ### CHECK (R28 to R31) -/

/-- R31: the edge reported is the one the slot is left with. -/
theorem checkResult_eq {s u : State} {i : Nat} {p' : TcpPart} (h : (u.slot i).live?.bind (·.tcp) = some p') (q : Record)
    (p : TcpPart) (g : Segment) (v : Verdict) : checkResult i q p g v s u =
      [BitVec.ofNat 32 i, (u.slot i).version, BitVec.ofNat 32 v.code, if s.loose q then 1 else 0, BitVec.ofNat 32 (s.slackFor q),
        if s.role = .yielding then 1 else 0,
        (((u.slot i).live?.bind (·.tcp)).map (fun p => (p.sender g.dir).edge)).getD 0] := by
  simp [checkResult, numWord, flagWord, h]

theorem admitsCheck_iff (s : State) : s.admitsCheck = true ↔ s.role = .active ∨ s.role = .takeover ∨ s.role = .yielding := by
  unfold admitsCheck onActiveSide; cases s.role <;> simp

section
variable {s : State} {r : Request} {i : Nat} {dir : Direction} {q : Record} {p : TcpPart}

theorem runCheck_notActive (ha : s.admitsCheck = false) : s.runCheck r = s.complete r .notActive [] := by
  simp [runCheck, ha]

/-- R28: neither one target nor an assigned direction. -/
theorem runCheck_malformed (ha : s.admitsCheck = true)
    (hm : (r.word 0).getLsbD 3 = true ∨ (r.word 0).getLsbD 0 = (r.word 0).getLsbD 1) :
    s.runCheck r = s.complete r .badRequest [] := by
  cases hd : r.checkDirection with
  | none => simp [runCheck, ha, hd]
  | some dir =>
    rcases hm with code | targets
    · rw [Request.checkDirection_eq_none code] at hd; cases hd
    · simp [runCheck, ha, hd, Request.checkTarget_malformed targets, checkSlot]

section
variable (ha : s.admitsCheck = true) (hd : r.checkDirection = some dir)
include ha hd

theorem runCheck_badSlot (ht : r.checkTarget = .slot i) (hi : 16896 ≤ i) :
    s.runCheck r = s.complete r .badSlot [BitVec.ofNat 32 i] := by
  simp [runCheck, ha, hd, ht, checkSlot, Config.slotCount, hi, numWord]

theorem runCheck_slot_noSession (ht : r.checkTarget = .slot i) (hi : i < 16896) (hl : (s.slot i).live? = none) :
    s.runCheck r = s.complete r .noSession [BitVec.ofNat 32 i] := by
  simp [runCheck, ha, hd, ht, checkSlot, Config.slotCount, Nat.not_le.2 hi, hl, numWord]

theorem runCheck_key_noSession {k : Key} (ht : r.checkTarget = .key k) (hk : lookupKey s.table s.cfg.seed k = none) :
    s.runCheck r = s.complete r .noSession [] := by
  simp [runCheck, ha, hd, ht, checkSlot, hk]

variable (hs : s.checkSlot r.checkTarget = .ok i) (hl : (s.slot i).live? = some q)
include hs hl

theorem runCheck_notTcp (ht : q.tcp = none) : s.runCheck r = s.complete r .notTcp [] := by
  simp [runCheck, ha, hd, hs, judgeSlot, hl, ht]

/-- R30: a TCP record is judged, its record written, and the request completed with what was found and left. -/
theorem runCheck_judged (ht : q.tcp = some p) {v : Verdict} (hv : judge p (r.segment dir) (s.slackFor q) = v) :
    s.runCheck r = (s.checkEffects i q p (r.segment dir) v).complete r .ok
      (checkResult i q p (r.segment dir) v s (s.checkEffects i q p (r.segment dir) v)) := by
  simp [runCheck, ha, hd, hs, judgeSlot, hl, ht, hv]

end

theorem checkSlot_slot (hi : i < 16896) (hl : (s.slot i).live? = some q) : s.checkSlot (.slot i) = .ok i := by
  simp [checkSlot, Config.slotCount, Nat.not_le.2 hi, hl]

theorem checkSlot_key {k : Key} (hw : tableWf s.table = true) (hk : s.findable k.normalise i q) :
    s.checkSlot (.key k) = .ok i := by
  simp [checkSlot, lookupKey_of_findable hw hk]

/-- R28, R29: the one target that is named, by slot or by key, gives the slot judged. -/
theorem checkSlot_target (hw : tableWf s.table = true) (hl : (s.slot i).live? = some q)
    (ht : (r.word 0).getLsbD 0 = true ∧ (r.word 0).getLsbD 1 = false ∧ i = (r.word 0).toNat / 65536 ∧ i < 16896 ∨
      (r.word 0).getLsbD 0 = false ∧ (r.word 0).getLsbD 1 = true ∧ s.findable (r.key 1).normalise i q) :
    s.checkSlot r.checkTarget = .ok i := by
  rcases ht with ⟨h0, h1, rfl, hi⟩ | ⟨h0, h1, hk⟩
  · rw [Request.checkTarget_slot h0 h1, checkSlot_slot hi hl]
  · rw [Request.checkTarget_key h0 h1, checkSlot_key hw hk]

end

/-! ### A begun CHECK that judges a record, with what follows at once -/

section
variable {s t : State} {r : Request} {i : Nat} {q : Record} {p : TcpPart} {g : Segment} {v : Verdict} {status : Status}
variable {result : List Word}
variable (ht : settle s ((s.beginRequest.checkEffects i q p g v).complete r status result) = t)
include ht

theorem settle_checkEffects_completed : s.completed t r status result :=
  ht ▸ settle_completed r status result (by simp) (by simp)

theorem settle_checkEffects_slot_eq (j : Nat) : t.slot j = (s.beginRequest.checkEffects i q p g v).slot j := by
  rw [← ht, slot_settle, slot_complete]

theorem settle_checkEffects_slot (hw : tableWf s.table = true) (j : Nat) : t.slot j =
    if j = i ∧ v.passes = true ∧ s.forwarding = true then ⟨(s.slot i).version + 1, .live (s.passedRecord q p g)⟩
    else s.slot j :=
  (settle_checkEffects_slot_eq ht j).trans (checkEffects_slot (s := s.beginRequest) hw i q p g v j)

theorem settle_checkEffects_latchedOnly : s.latchedOnly t [.completionReady] := by
  intro e he
  have other : Event.completionReady ≠ e := fun h => he (by simp [h])
  rw [← ht, latched_settle, latched_complete, decide_eq_false other, Bool.false_or]
  simp [latched]

theorem settle_checkEffects_withheld (h : v.passes = false ∨ s.forwarding = false) : t.table = s.table := by
  have unwritten : s.beginRequest.checkEffects i q p g v = s.beginRequest := checkEffects_withheld h
  simp [← ht, unwritten]

theorem settle_checkEffects_writes : t = { s.followedBy t with
    table := t.table
    req := { s.req with queue := t.req.queue, completions := t.req.completions, latch := t.req.latch } } := by
  obtain ⟨table, written⟩ := checkEffects_writes s.beginRequest i q p g v
  obtain ⟨catchup, cursor, marker, heartbeat, tx, handed, hold, settled⟩ :=
    settle_writes s ((s.beginRequest.checkEffects i q p g v).complete r status result)
  rw [← ht, settled, written]
  rfl

end

end State

/-- R176, R192: a CHECK the executor can begin is executed. -/
theorem exec_check_begun {s : State} {r : Request} (h : s.canBegin r 7 8) :
    exec .check s = .next (State.settle s (s.beginRequest.runCheck r)) := by
  obtain ⟨hreset, hrunning, hroom, hhead, hkind, hwords⟩ := h
  exact execute_begun hreset (readyRequest_eq_some.2 ⟨hrunning, hroom, hhead⟩) (by simp [Request.op, hkind, hwords])

end Sys2Proof.Machine

open Sys2Proof Sys2Proof.Machine Sys2Proof.Machine.State

/-- Settles O52: the refusals in the order of R28's checks, each by what `runCheck` then answers; past them the verdict's code by
`judge_code`, and the table and the completion by what `checkEffects` does to the slot. -/
theorem checkJudgesSegment : Obligations.CheckJudgesSegment := by
  unfold Obligations.CheckJudgesSegment
  intro s r w dir hb hw hword
  subst hword
  refine ⟨_, exec_check_begun hb, ?_⟩
  generalize ht : State.settle s (s.beginRequest.runCheck r) = t
  have refused (status result) (h : s.beginRequest.runCheck r = s.beginRequest.complete r status result) :
      t = (s.followedBy t).answered r status result := by
    rw [← ht, h]; exact settle_answered s r status result
  refine ⟨fun hactive htakeover hyielding => refused _ _ (runCheck_notActive ?_), fun hrole => ?_⟩
  · exact Bool.eq_false_iff.2 fun h => ((admitsCheck_iff s).1 h).elim hactive (Or.rec htakeover hyielding)
  have ha : s.beginRequest.admitsCheck = true := (admitsCheck_iff s).2 hrole
  refine ⟨fun hm => refused _ _ (runCheck_malformed ha hm), fun i hcode hone hdir => ?_⟩
  have hd : r.checkDirection = some dir := Request.checkDirection_eq_some hcode hdir
  have byKey (h0 : (r.word 0).getLsbD 0 = false) : (r.word 0).getLsbD 1 = true :=
    eq_true_of_ne_false fun h1 => hone (h0.trans h1.symm)
  have bySlot (h0 : (r.word 0).getLsbD 0 = true) : (r.word 0).getLsbD 1 = false :=
    eq_false_of_ne_true fun h1 => hone (h0.trans h1.symm)
  refine ⟨fun h0 hi => ?_, fun h0 hk => ?_, fun q hl hq => ?_⟩
  · subst hi
    have target := Request.checkTarget_slot h0 (bySlot h0)
    exact ⟨fun hi => refused _ _ (runCheck_badSlot ha hd target hi),
      fun hi hl => refused _ _ (runCheck_slot_noSession ha hd target hi hl)⟩
  · exact refused _ _ (runCheck_key_noSession ha hd (Request.checkTarget_key h0 (byKey h0)) (lookupKey_of_absent hw hk))
  have hs : s.beginRequest.checkSlot r.checkTarget = .ok i := checkSlot_target hw hl
    (hq.imp (fun ⟨h0, hi⟩ => ⟨h0, bySlot h0, hi⟩) (fun ⟨h0, hk⟩ => ⟨h0, byKey h0, hk⟩))
  refine ⟨fun htcp => refused _ _ (runCheck_notTcp ha hd hs hl htcp), ?_⟩
  intro p snd rcv loose ack slack verdict o u a htcp hsides hloose hslack hack ho hu ha' hverdict
  obtain ⟨rfl, rfl⟩ := TcpPart.sides_eq hsides
  obtain rfl : loose = s.loose q := Bool.eq_iff_iff.2 (hloose.trans (loose_iff htcp).symm)
  obtain rfl : slack = s.slackFor q := hslack
  subst hack ho hu ha'
  replace hverdict := hverdict.trans (judge_code p (r.segment dir) (s.slackFor q)).symm
  generalize hv : judge p (r.segment dir) (s.slackFor q) = v at hverdict
  subst hverdict
  rw [runCheck_judged ha hd hs hl htcp hv] at ht
  obtain ⟨p', hp'⟩ := checkEffects_tcp (s := s.beginRequest) hw hl htcp (r.segment dir) v
  have completed := settle_checkEffects_completed ht
  rw [checkResult_eq hp', ← settle_checkEffects_slot_eq ht] at completed
  have slot := settle_checkEffects_slot ht hw
  refine ⟨?_, settle_checkEffects_latchedOnly ht, fun j hj => (slot j).trans (if_neg fun h => hj h.1), ?_, ?_,
    settle_checkEffects_writes ht⟩
  · cases dir <;> exact completed
  · rintro ⟨hpass, hyielding⟩
    have hf : s.forwarding = true := (forwarding_iff s).2 (hrole.imp_right (·.resolve_right hyielding))
    rw [slot, if_pos ⟨rfl, v.passes_iff.2 hpass, hf⟩]
  · refine fun h => settle_checkEffects_withheld ht (h.imp (fun hfail => ?_) (fun hyielding => ?_))
    · exact Bool.eq_false_iff.2 fun hpass => by have := v.passes_iff.1 hpass; omega
    · simp [forwarding, hyielding]

/-- Settles O53: the three tests passed make the verdict pass, so the slot is left with `passedRecord`, read field by field. -/
theorem checkMovesRecord : Obligations.CheckMovesRecord := by
  unfold Obligations.CheckMovesRecord
  intro s r i q p dir snd rcv loose slack last ack limit window o u a hb hw hrole htarget hcode hdir hl htcp hsides hloose hslack
    hlast hack hwindow hlimit ho hu ha hbelow habove hahead
  obtain ⟨rfl, rfl⟩ := TcpPart.sides_eq hsides
  obtain rfl : loose = s.loose q := Bool.eq_iff_iff.2 (hloose.trans (loose_iff htcp).symm)
  obtain rfl : slack = s.slackFor q := hslack
  subst hlast hack hlimit hwindow ho hu ha
  have hd : r.checkDirection = some dir := Request.checkDirection_eq_some hcode hdir
  have admits : s.beginRequest.admitsCheck = true := (admitsCheck_iff s).2 (hrole.imp_right .inl)
  have hs : s.beginRequest.checkSlot r.checkTarget = .ok i := checkSlot_target hw hl htarget
  have passes : (judge p (r.segment dir) (s.slackFor q)).passes = true := judge_passes hbelow habove hahead
  refine ⟨_, (p.sender dir).advanced (r.segment dir), (p.other dir).allowed (r.segment dir) (p.sender dir).scale,
    exec_check_begun hb, TcpDir.advanced_eq _ _, TcpDir.allowed_eq _ _ _, ?_⟩
  generalize ht : State.settle s (s.beginRequest.runCheck r) = t
  rw [runCheck_judged admits hd hs hl htcp rfl] at ht
  rw [settle_checkEffects_slot ht hw, if_pos ⟨rfl, passes, (forwarding_iff s).2 hrole⟩, passedRecord_eq]
  cases dir <;> rfl
end

section
/-! SUPPORT, and the proof of O20 (R68). First the quarantine list at a tick; then one evaluation for POOL_LOW, the evaluation of several
addresses, and a change of the pool (R72), each by the flags it leaves, the events it latches and what else it writes. -/

namespace Sys2Proof.Machine

/-- The pool after the comparison of the quarantine list at a tick. -/
def Pool.serveHold (hold : Nat) (now : Word) (p : Pool) : Pool := { p with quarantine := Pool.unserved hold now p.quarantine }

/-- R68: the entries leave from the head, up to the first that has not served the hold. -/
theorem Pool.serveHold_quarantine (hold : Nat) (now : Word) (p : Pool) : (p.serveHold hold now).quarantine =
    p.quarantine.dropWhile (fun q => decide ((hold : Int) ≤ (now - q.since).toInt)) := by
  unfold Pool.serveHold
  induction p.quarantine with
  | nil => rfl
  | cons q rest ih =>
    rw [List.dropWhile_cons, ← ih]
    simp only [Pool.unserved, decide_eq_true_eq]
    rfl

namespace State

/-! ### One evaluation of an address (R72) -/

/-- R72: an evaluation writes the arming flags and the latch, and nothing else. -/
theorem evaluate_writes (s : State) (i : Fin 4) : ∃ armed latch, s.evaluate i = { s with
    pool := { s.pool with armed := armed }
    req := { s.req with latch := latch } } := by
  unfold evaluate
  (repeat' split) <;> exact ⟨_, _, rfl⟩

/-- R72: after an evaluation the address is armed exactly if its free count is not below the threshold. -/
theorem evaluate_armed (s : State) (i j : Fin 4) : (s.evaluate i).pool.armed[j] =
    if j = i then decide (s.cfg.poolLow ≤ s.freeCount i) else s.pool.armed[j] := by
  have written (b : Bool) : (s.pool.armed.set i b)[j] = if j = i then b else s.pool.armed[j] := by
    simp [Vector.getElem_set, Fin.ext_iff, eq_comm]
  have kept (b : Bool) (h : s.pool.armed[i] = b) : s.pool.armed[j] = if j = i then b else s.pool.armed[j] := by
    split <;> simp_all
  unfold evaluate
  split
  · next armed =>
    split
    · next below => rw [decide_eq_false (Nat.not_le.2 below)]; exact written false
    · next above => rw [decide_eq_true (Nat.not_lt.1 above)]; exact kept true armed
  · next disarmed =>
    split
    · next above => rw [decide_eq_true above]; exact written true
    · next below => rw [decide_eq_false below]; exact kept false (Bool.eq_false_iff.2 disarmed)

/-- R72: an evaluation latches POOL_LOW of an armed address below the threshold, and nothing else. -/
theorem evaluate_latched (s : State) (i : Fin 4) (e : Event) : (s.evaluate i).latched e = true ↔
    s.latched e = true ∨ e = .poolLow ∧ s.pool.armed[i] = true ∧ s.freeCount i < s.cfg.poolLow := by
  have kept (h : ¬ (s.pool.armed[i] = true ∧ s.freeCount i < s.cfg.poolLow)) : s.latched e = true ↔
      s.latched e = true ∨ e = .poolLow ∧ s.pool.armed[i] = true ∧ s.freeCount i < s.cfg.poolLow :=
    (or_iff_left fun hl => h hl.2).symm
  unfold evaluate
  split
  · next armed =>
    split
    · next below =>
      rw [latched_latch, Bool.or_eq_true, decide_eq_true_eq, or_comm, eq_comm (b := e)]
      exact or_congr_right (and_iff_left ⟨armed, below⟩).symm
    · next above => exact kept fun h => above h.2
  · next disarmed => split <;> exact kept fun h => disarmed h.1

/-! ### The evaluation of the addresses that `which` names (R72) -/

section
variable (which : Nat → Bool)

/-- R72: an address is evaluated if the pool serves it and `which` names it. -/
def isNamed (s : State) (i : Fin 4) : Bool := decide (i.val < s.pool.addrCount) && which i.val

/-- The step of `evaluateWhere` for one address. -/
def evaluateIf (s : State) (i : Fin 4) : State := if isNamed which s i then s.evaluate i else s

theorem evaluateWhere_eq_foldl (s : State) : s.evaluateWhere which = [0, 1, 2, 3].foldl (evaluateIf which) s := rfl

theorem evaluateIf_writes (s : State) (i : Fin 4) : ∃ armed latch, evaluateIf which s i = { s with
    pool := { s.pool with armed := armed }
    req := { s.req with latch := latch } } := by
  unfold evaluateIf
  split
  · exact evaluate_writes s i
  · exact ⟨_, _, rfl⟩

/-- No evaluation changes what the next one reads besides the flags: the addresses, the threshold and the free counts. -/
theorem evaluateIf_reads (s : State) (i : Fin 4) : (∀ j, isNamed which (evaluateIf which s i) j = isNamed which s j) ∧
    (evaluateIf which s i).cfg = s.cfg ∧ ∀ j, (evaluateIf which s i).freeCount j = s.freeCount j := by
  obtain ⟨armed, latch, h⟩ := evaluateIf_writes which s i
  rw [h]
  exact ⟨fun _ => rfl, rfl, fun _ => rfl⟩

theorem evaluateIf_armed (s : State) (i j : Fin 4) : (evaluateIf which s i).pool.armed[j] =
    if j = i ∧ isNamed which s j = true then decide (s.cfg.poolLow ≤ s.freeCount j) else s.pool.armed[j] := by
  unfold evaluateIf
  split
  · next named => rw [evaluate_armed]; grind
  · next unnamed => grind

theorem evaluateIf_latched (s : State) (i : Fin 4) (e : Event) : (evaluateIf which s i).latched e = true ↔
    s.latched e = true ∨
      e = .poolLow ∧ isNamed which s i = true ∧ s.pool.armed[i] = true ∧ s.freeCount i < s.cfg.poolLow := by
  unfold evaluateIf
  split
  · next named => simp only [evaluate_latched, named, true_and]
  · next unnamed => simp [unnamed]

theorem evaluateEach_writes (l : List (Fin 4)) (s : State) : ∃ armed latch, l.foldl (evaluateIf which) s = { s with
    pool := { s.pool with armed := armed }
    req := { s.req with latch := latch } } := by
  induction l generalizing s with
  | nil => exact ⟨_, _, rfl⟩
  | cons i l ih =>
    obtain ⟨armed, latch, first⟩ := evaluateIf_writes which s i
    obtain ⟨armed', latch', others⟩ := ih (evaluateIf which s i)
    exact ⟨armed', latch', by rw [List.foldl_cons, others, first]⟩

theorem evaluateEach_armed (l : List (Fin 4)) (s : State) (j : Fin 4) : (l.foldl (evaluateIf which) s).pool.armed[j] =
    if j ∈ l ∧ isNamed which s j = true then decide (s.cfg.poolLow ≤ s.freeCount j) else s.pool.armed[j] := by
  induction l generalizing s with
  | nil => simp
  | cons i l ih =>
    obtain ⟨named, cfg, free⟩ := evaluateIf_reads which s i
    rw [List.foldl_cons, ih, named, cfg, free, evaluateIf_armed]
    grind

/-- R72: POOL_LOW is latched if an address evaluated was armed and below the threshold. Its flag is then down, so that a second evaluation
latches nothing more. -/
theorem evaluateEach_latched (l : List (Fin 4)) (s : State) (e : Event) : (l.foldl (evaluateIf which) s).latched e = true ↔
    s.latched e = true ∨ e = .poolLow ∧ ∃ j ∈ l,
      isNamed which s j = true ∧ s.pool.armed[j] = true ∧ s.freeCount j < s.cfg.poolLow := by
  induction l generalizing s with
  | nil => simp
  | cons i l ih =>
    obtain ⟨named, cfg, free⟩ := evaluateIf_reads which s i
    rw [List.foldl_cons, ih, evaluateIf_latched]
    simp only [named, cfg, free, evaluateIf_armed, List.mem_cons]
    grind

theorem mem_addresses (j : Fin 4) : j ∈ ([0, 1, 2, 3] : List (Fin 4)) := by revert j; decide

theorem evaluateWhere_writes (s : State) : ∃ armed latch, s.evaluateWhere which = { s with
    pool := { s.pool with armed := armed }
    req := { s.req with latch := latch } } :=
  evaluateEach_writes which _ s

theorem evaluateWhere_armed (s : State) (j : Fin 4) : (s.evaluateWhere which).pool.armed[j] =
    if isNamed which s j = true then decide (s.cfg.poolLow ≤ s.freeCount j) else s.pool.armed[j] := by
  rw [evaluateWhere_eq_foldl, evaluateEach_armed]
  simp only [mem_addresses, true_and]

theorem evaluateWhere_latched (s : State) (e : Event) : (s.evaluateWhere which).latched e = true ↔
    s.latched e = true ∨ e = .poolLow ∧ ∃ j,
      isNamed which s j = true ∧ s.pool.armed[j] = true ∧ s.freeCount j < s.cfg.poolLow := by
  rw [evaluateWhere_eq_foldl, evaluateEach_latched]
  simp only [mem_addresses, true_and]

end

/-! ### A change of the pool (R72) -/

section
variable {s : State} {f : Pool → Pool}

/-- R72: a change of the pool writes what it says of the pool, the arming flags and the latch, and nothing else. -/
theorem changePool_writes (s : State) (f : Pool → Pool) : ∃ armed latch, s.changePool f = { s with
    pool := { f s.pool with armed := armed }
    req := { s.req with latch := latch } } := by
  obtain ⟨armed, latch, h⟩ := evaluateWhere_writes _ (s.withPool (f s.pool))
  exact ⟨armed, latch, h⟩

theorem changePool_freeCount (s : State) (f : Pool → Pool) (i : Nat) :
    (s.changePool f).freeCount i = (f s.pool).freeCount s.letter i := by
  obtain ⟨armed, latch, h⟩ := changePool_writes s f
  rw [h]; rfl

/-- R72: a change of the pool evaluates each address the pool then serves whose free count it has changed. -/
theorem changePool_armed (s : State) (f : Pool → Pool) (j : Fin 4) : (s.changePool f).pool.armed[j] =
    if j.val < (f s.pool).addrCount ∧ (s.changePool f).freeCount j ≠ s.freeCount j then
      decide (s.cfg.poolLow ≤ (s.changePool f).freeCount j)
    else (f s.pool).armed[j] := by
  rw [changePool_freeCount, changePool, evaluateWhere_armed]
  simp only [isNamed, Bool.and_eq_true, decide_eq_true_eq]
  rfl

theorem changePool_latched (s : State) (f : Pool → Pool) (e : Event) : (s.changePool f).latched e = true ↔
    s.latched e = true ∨ e = .poolLow ∧ ∃ j : Fin 4,
      (j.val < (f s.pool).addrCount ∧ (s.changePool f).freeCount j ≠ s.freeCount j) ∧
      (f s.pool).armed[j] = true ∧ (s.changePool f).freeCount j < s.cfg.poolLow := by
  simp only [changePool_freeCount]
  rw [changePool, evaluateWhere_latched]
  simp only [isNamed, Bool.and_eq_true, decide_eq_true_eq]
  rfl

/-- R72: what the claims say of POOL_LOW follows from a change of the pool that keeps the lane mode and the arming flags: an address that
has lost its flag is one evaluated below the threshold. -/
theorem changePool_poolLowFollows (hm : (f s.pool).laneMode = s.pool.laneMode) (ha : (f s.pool).armed = s.pool.armed) :
    s.poolLowFollows (s.changePool f) false := by
  constructor
  · intro i
    rw [changePool_armed, ha]
    simp [hm]
  · rw [changePool_latched]
    simp only [changePool_armed, ha]
    grind

theorem changePool_latchedOnly (s : State) (f : Pool → Pool) : s.latchedOnly (s.changePool f) [.poolLow] := by
  intro e he
  have other : e ≠ .poolLow := by simpa using he
  rw [Bool.eq_iff_iff, changePool_latched]
  simp [other]

end

end State

/-- R68: a tick's comparison of the quarantine list, when it is due. -/
theorem exec_quarantineHoldExpiry_due {s : State} (hr : s.resetLow = false) (hd : s.due.quarantine = true) :
    exec .quarantineHoldExpiry s = .next
      ((s.changePool (Pool.serveHold s.cfg.quarantineHold s.now)).withDue { s.due with quarantine := false }) :=
  quietEvent_happens hr hd

end Sys2Proof.Machine

open Sys2Proof Sys2Proof.Machine Sys2Proof.Machine.State

/-- Settles O20: the change of the pool that the comparison makes keeps the lane mode and the arming flags, so `changePool_poolLowFollows`
says what is evaluated; the list left is `Pool.serveHold_quarantine`. -/
theorem quarantineServesItsHold : Obligations.QuarantineServesItsHold := by
  unfold Obligations.QuarantineServesItsHold
  intro s hr hd
  have happened := exec_quarantineHoldExpiry_due hr hd
  have follows : s.poolLowFollows (s.changePool (Pool.serveHold s.cfg.quarantineHold s.now)) false :=
    changePool_poolLowFollows rfl rfl
  have latches := changePool_latchedOnly s (Pool.serveHold s.cfg.quarantineHold s.now)
  obtain ⟨armed, latch, writes⟩ := changePool_writes s (Pool.serveHold s.cfg.quarantineHold s.now)
  generalize s.changePool (Pool.serveHold s.cfg.quarantineHold s.now) = u at *
  refine ⟨_, happened, ?_, follows, latches, ?_⟩
  · rw [writes]; exact Pool.serveHold_quarantine ..
  · rw [writes]; rfl
end

section
/-! SUPPORT, and the proof of O54 (R127). First the transmitter taking a frame (R99), then the hello exchange begun (R119), each with what
follows at once; then RETRY_PAIR. -/

namespace Sys2Proof.Machine

namespace State

/-! ### A page put to the transmitter (R99) -/

theorem takeNext_page {x : Transmitter} {p : HelloPage} {rest : List HelloPage} (inFlight : List InFlight)
    (h : x.hello = p :: rest) : takeNext inFlight x = { x with sending := some (.hello p), hello := rest } := by
  simp [takeNext, h]

/-- R99: a waiting page is taken before any other frame, so the last one is still the last to wait, or it alone waited and is taken. -/
theorem pageSent_kick {s : State} {p : HelloPage} (h : s.pageSent p) : s.kick.pageSent p := by
  unfold kick
  split
  · next idle =>
    have waits : s.port.tx.hello.getLast? = some p := h.resolve_right (by simp [idle])
    cases pages : s.port.tx.hello with
    | nil => simp [pages] at waits
    | cons first rest =>
      rw [takeNext_page _ pages]
      cases rest with
      | nil =>
        obtain rfl : first = p := by simpa [pages] using waits
        exact .inr rfl
      | cons second more =>
        rw [pages, List.getLast?_cons_cons] at waits
        exact .inl waits
  · exact h

theorem pageSent_settle {before s : State} {p : HelloPage} (h : s.pageSent p) : (settle before s).pageSent p := by
  refine pageSent_kick ?_
  unfold pageSent
  rw [followUp_changes]
  exact h

/-! ### The hello exchange begun (R119) -/

theorem exchangeBegun_helloBegin (s : State) : s.exchangeBegun s.helloBegin :=
  ⟨rfl, .inl List.getLast?_concat⟩

/-- R119: what follows at once changes neither the exchange nor this unit's identity, and leaves page 1 sent. -/
theorem exchangeBegun_settle {before s u : State} (h : s.exchangeBegun u) : s.exchangeBegun (settle before u) := by
  obtain ⟨begun, sent⟩ := h
  have identity : (settle before u).identity = u.identity := by rw [settle_changes]; rfl
  refine ⟨?_, ?_⟩
  · rw [identity]; simpa using begun
  · rw [identity]; exact pageSent_settle sent

theorem exchangeBegun_helloRestart {s : State} (hl : s.port.link = .hello) (hr : s.role ≠ .boot) :
    s.exchangeBegun s.helloRestart := by
  have runs : s.exchangeRuns = true := by simp [exchangeRuns, hl, hr]
  rw [helloRestart, if_pos runs]
  exact exchangeBegun_helloBegin s

/-- R119: in BOOT the exchange is held. -/
theorem helloRestart_hello_boot {s : State} (hr : s.role = .boot) : s.helloRestart.hello = s.hello := by
  simp [helloRestart, exchangeRuns, hr]

theorem helloRestart_writes (s : State) : ∃ tx hello, s.helloRestart = { s with
    port := { s.port with tx := tx }
    hello := hello } := by
  unfold helloRestart
  split <;> exact ⟨_, _, rfl⟩

/-! ### RETRY_PAIR (R127) -/

/-- R127: what RETRY_PAIR does in REFUSED: the link goes to HELLO, where the exchange begins unless it is held. -/
def leaveRefused (s : State) : State := (s.withPort { s.port with link := .hello }).helloRestart

section
variable {s : State} {r : Request}

theorem runRetryPair_refused (h : s.port.link = .refused) : s.runRetryPair r = s.leaveRefused.complete r .ok [] := by
  simp [runRetryPair, leaveRefused, h]

theorem runRetryPair_notRefused (h : s.port.link ≠ .refused) : s.runRetryPair r = s.complete r .ok [] := by
  simp [runRetryPair, h]

theorem exchangeBegun_leaveRefused (h : s.role ≠ .boot) : s.exchangeBegun s.leaveRefused :=
  exchangeBegun_helloRestart (s := s.withPort { s.port with link := .hello }) rfl h

theorem leaveRefused_hello_boot (h : s.role = .boot) : s.leaveRefused.hello = s.hello :=
  helloRestart_hello_boot (s := s.withPort { s.port with link := .hello }) h

theorem leaveRefused_writes (s : State) : ∃ tx hello, s.leaveRefused = { s with
    port := { s.port with link := .hello, tx := tx }
    hello := hello } :=
  helloRestart_writes (s.withPort { s.port with link := .hello })

end

/-- R127: a begun RETRY_PAIR in REFUSED, with what follows at once. -/
theorem settle_leaveRefused_writes (s : State) (r : Request) (status : Status) (result : List Word) :
    let t := settle s (s.beginRequest.leaveRefused.complete r status result)
    t = { (s.followedBy t).answered r status result with
      port := { (s.followedBy t).port with link := .hello }
      hello := t.hello } := by
  obtain ⟨tx, hello, left⟩ := leaveRefused_writes s.beginRequest
  obtain ⟨catchup, cursor, marker, heartbeat, tx', handed, hold, settled⟩ :=
    settle_writes s (s.beginRequest.leaveRefused.complete r status result)
  intro t
  have written : t = _ := settled
  rw [written, left]
  rfl

end State

/-- R176, R192: a RETRY_PAIR the executor can begin is executed. -/
theorem exec_retryPair_begun {s : State} {r : Request} (h : s.canBegin r 9 0) :
    exec .retryPair s = .next (State.settle s (s.beginRequest.runRetryPair r)) := by
  obtain ⟨hreset, hrunning, hroom, hhead, hkind, hwords⟩ := h
  exact execute_begun hreset (readyRequest_eq_some.2 ⟨hrunning, hroom, hhead⟩) (by simp [Request.op, hkind, hwords])

end Sys2Proof.Machine

open Sys2Proof Sys2Proof.Machine Sys2Proof.Machine.State

/-- Settles O54: outside REFUSED the request only answers; in REFUSED it answers after `leaveRefused`, which begins the exchange outside
BOOT and leaves the hello record alone in it. -/
theorem retryPairLeavesRefused : Obligations.RetryPairLeavesRefused := by
  unfold Obligations.RetryPairLeavesRefused
  intro s r hb
  refine ⟨_, exec_retryPair_begun hb, fun hl => ?_, fun hl => ?_⟩
  · rw [runRetryPair_notRefused (s := s.beginRequest) hl]
    exact settle_answered s r .ok []
  · rw [runRetryPair_refused (s := s.beginRequest) hl]
    refine ⟨fun hr => ?_, fun hr => ?_, settle_leaveRefused_writes s r .ok []⟩
    · have begun : s.exchangeBegun s.beginRequest.leaveRefused := exchangeBegun_leaveRefused (s := s.beginRequest) hr
      exact exchangeBegun_settle (u := s.beginRequest.leaveRefused.complete r .ok []) begun
    · have kept : s.beginRequest.leaveRefused.hello = s.hello := leaveRefused_hello_boot (s := s.beginRequest) hr
      simp [kept]
end

section
/-! SUPPORT, and the proof of O16 (R178). First the fields of a completion header (R193), then the word that a read of the completion
window returns and how it moves on. -/

namespace Sys2Proof.Machine

/-! ### The completion header (R193) -/

section
open BitVec
variable (c : Completion)

@[simp] theorem Completion.header_kind : c.header.extractLsb' 26 6 = c.kind :=
  calc c.header.extractLsb' 26 6
    _ = (c.kind ++ c.status.code ++ BitVec.ofNat 6 c.result.length).extractLsb' 10 6 := extractLsb'_append_eq_of_le (by decide)
    _ = (c.kind ++ c.status.code).extractLsb' 4 6 := extractLsb'_append_eq_of_le (by decide)
    _ = c.kind := extractLsb'_append_eq_left

@[simp] theorem Completion.header_status : c.header.extractLsb' 22 4 = c.status.code :=
  calc c.header.extractLsb' 22 4
    _ = (c.kind ++ c.status.code ++ BitVec.ofNat 6 c.result.length).extractLsb' 6 4 := extractLsb'_append_eq_of_le (by decide)
    _ = (c.kind ++ c.status.code).extractLsb' 0 4 := extractLsb'_append_eq_of_le (by decide)
    _ = c.status.code := extractLsb'_append_eq_right

@[simp] theorem Completion.header_length : c.header.extractLsb' 16 6 = BitVec.ofNat 6 c.result.length :=
  calc c.header.extractLsb' 16 6
    _ = (c.kind ++ c.status.code ++ BitVec.ofNat 6 c.result.length).extractLsb' 0 6 := extractLsb'_append_eq_of_le (by decide)
    _ = BitVec.ofNat 6 c.result.length := extractLsb'_append_eq_right

@[simp] theorem Completion.header_tag : c.header.extractLsb' 0 16 = c.tag := extractLsb'_append_eq_right

end

namespace State

/-! ### A read of the completion window (R178) -/

section
variable {s : State} {c : Completion} {rest : List Completion}

theorem completionWord_empty (h : s.req.completions = []) : s.completionWord = 0 := by
  simp [completionWord, h]

theorem completionWord_header (h : s.req.completions = c :: rest) (hp : s.req.readPos = 0) : s.completionWord = c.header := by
  simp [completionWord, h, hp, Completion.words]

theorem completionWord_result {n : Nat} {w : Word} (h : s.req.completions = c :: rest) (hp : s.req.readPos = n + 1)
    (hw : c.result[n]? = some w) : s.completionWord = w := by
  simp [completionWord, h, hp, Completion.words, hw]

theorem advanceCompletion_empty (h : s.req.completions = []) : s.advanceCompletion = s := by
  simp [advanceCompletion, h]

/-- The words of a completion are its header and its result, so the last of them is at position `c.result.length`. -/
theorem advanceCompletion_head (h : s.req.completions = c :: rest) : s.advanceCompletion = { s with
    req := if s.req.readPos < c.result.length then { s.req with readPos := s.req.readPos + 1 }
      else { s.req with readPos := 0, completions := rest } } := by
  simp only [advanceCompletion, h, Completion.words, List.length_cons, Nat.add_lt_add_iff_right]
  split <;> rfl

end

end State

/-- R178, R197: outside reset a read puts out the next word, and then the position moves on. -/
theorem exec_completionWindowRead_running {s : State} (hr : s.resetLow = false) :
    exec .completionWindowRead s = .next (s.withBusData s.completionWord).advanceCompletion := by
  have read : exec .completionWindowRead s = execCompletionWindowRead s := rfl
  simp [read, execCompletionWindowRead, hr]

end Sys2Proof.Machine

open Sys2Proof Sys2Proof.Machine Sys2Proof.Machine.State

/-- Settles O16: by whether the queue is empty; at a head completion the word is its header at position 0 and its result past it, and
`advanceCompletion_head` says where the position goes. -/
theorem completionWindowReadsHead : Obligations.CompletionWindowReadsHead := by
  unfold Obligations.CompletionWindowReadsHead
  intro s hr
  refine ⟨_, exec_completionWindowRead_running hr, ?_⟩
  cases h : s.req.completions with
  | nil => rw [completionWord_empty h]; exact advanceCompletion_empty (s := s.withBusData 0) h
  | cons c rest =>
    rw [advanceCompletion_head (s := s.withBusData s.completionWord) h]
    refine ⟨fun hp => ?_, fun n w hp hw => completionWord_result h hp hw, rfl⟩
    simp [completionWord_header h hp]
end
